-- ==== Sys2Proof/Word.lean ====
section
/-! DEFINITION. The plain value types of the part: character text, strand and plan numbers. -/

namespace Sys2Proof

/-- A run of characters of the service line, as character codes (section 10.7 lists the codes). -/
abbrev Text := List Nat

/-- One of the six strands. The value `n` stands for strand number `n + 1` (00_scope, "Numbering"). -/
abbrev Strand := Fin 6

/-- One of the twelve stored plans. The value `p` stands for plan number `p + 1`. -/
abbrev PlanNo := Fin 12

/-- The six strands in ascending number, the order in which every event that reaches all of them takes them. -/
def allStrands : List Strand := [0, 1, 2, 3, 4, 5]

/-- A word written in the source text of the model, as character codes. -/
def word (w : String) : Text := w.toList.map Char.toNat

end Sys2Proof
end

