-- ==== Sys2Proof/Syntax.lean ====
section
/-! DEFINITION. The commands the part takes: one constructor of `Instr` for each row of the table of
operations and events, with the operands that reach the part from outside (line text already judged,
terminal and plant-line values at the moment of the event). -/

namespace Sys2Proof

/-- The reason for a restart (00_scope, "Terms"). -/
inductive RestartKind where
  | start | tundish | dip
  deriving DecidableEq, Repr, Inhabited

/-- Target of a slot (R38): a speed in mm/min, or RESUME. -/
inductive Target where
  | speed (v : Nat)
  | resume
  deriving DecidableEq, Repr, Inhabited

/-- Step of a slot (R38): AUTO, or an override step in mm/min per control period. -/
inductive StepMode where
  | auto
  | override (o : Nat)
  deriving DecidableEq, Repr, Inhabited

/-- One slot of a plan (R38). -/
structure Slot where
  target   : Target
  duration : Nat
  level    : Nat
  step     : StepMode
  deriving DecidableEq, Repr, Inhabited

/-- The header of a plan (R38). -/
structure Header where
  kind  : RestartKind
  fill  : Nat
  dwell : Nat
  count : Nat
  name  : Text
  deriving DecidableEq, Repr, Inhabited

/-- The nineteen deviation kinds of R146, in the order of their numbers 1 to 19. -/
inductive Kind where
  | breakout | breakoutSuspect | levelHigh | levelLow | gaugeFault | fillTimeout | interlockLost
  | driveLag | rateClamp | rampShort | speedLimit | permitWait | noPlan | changeOverrun | supplyLost
  | controlPowerLost | supplyDip | carSequence | storeFault
  deriving DecidableEq, Repr

/-- The configuration items that exist once for each strand (R163). -/
inductive StrandItem where
  | vmax | amax | creep | lnorm | lhigh | llow | lfloor | drop | kp | ki | kff | umax | lagtol | lagt
  | fillt | pwait | defs | deft | defd | enabled
  deriving DecidableEq, Repr

/-- The plant configuration items of R164 other than the steering table. -/
inductive PlantItem where
  | pmax | gap | vdip | vok | tride | tsettle | tchange | addr | baud | parity
  deriving DecidableEq, Repr

/-- A configuration key (R163, R164, R147). `act` and `alm` take any kind name of R146, the fixed kinds
among them: R179 lets PUT name them and R147 refuses them. -/
inductive CfgKey where
  | strand (i : StrandItem) (n : Strand)
  | plant (i : PlantItem)
  | act (k : Kind)
  | alm (k : Kind)
  deriving DecidableEq, Repr

/-- A value given to a configuration key: a number, one of the words some item takes, or any other word. -/
inductive Value where
  | num (v : Nat)
  | yes | no | parityNone | even | trip | hold | note | on | off
  | other
  deriving DecidableEq, Repr

/-- The log a request names: that of a strand by its number, or the plant log `P` (R160, R162). -/
inductive LogSel where
  | strand (n : Nat)
  | plant
  deriving DecidableEq, Repr

/-- The plan a read names: a plan by its number, or plan F (R54). -/
inductive PlanSel where
  | plan (p : Nat)
  | fallback
  deriving DecidableEq, Repr

/-- The values of one strand's terminal at one moment (R1): the level with its gauge-valid flag, the
measured speed as the drive reports it, and the three flags. -/
structure Sample where
  level      : Int
  gaugeValid : Bool
  measured   : Nat
  ready      : Bool
  barSeated  : Bool
  breakout   : Bool
  deriving DecidableEq, Repr

/-- A request of the service line as the interface hands it to the block that owns it (R179). Numbers are
those written on the line; a number outside its range is refused with RANGE. -/
inductive Request where
  | sta
  | getIdent
  | getStrand (n : Nat)
  | getLog (l : LogSel)
  | getPlan (p : PlanSel)
  | getSlot (p : PlanSel) (s : Nat)
  | getCfg (key : CfgKey)
  | getPermit
  | getStore
  | getCause
  | getLineerr
  | getTime
  | put (pairs : List (CfgKey × Value))
  | plnHeader (p : Nat) (h : Header)
  | plnSlots (p s : Nat) (groups : List Slot)
  | plnClr (p : Nat)
  | chk (p : Nat)
  | beg (n : Nat) (plan : Option Nat)
  | hld (n : Nat)
  | hldAll (broadcast : Bool)
  | res (n : Nat) (plan : Option Nat)
  | stp (n : Nat)
  | stpAll (broadcast : Bool)
  | rel (n : Nat)
  | ack (l : LogSel)
  | sav
  | rst
  deriving DecidableEq, Repr

/-- The commands: one constructor for each row of the table of operations and events. -/
inductive Instr where
  /-- CONTROL_PERIOD: expiry of strand `n`'s control-period timer, with the values at its terminal (R1, R8). -/
  | controlPeriod (n : Strand) (sample : Sample)
  /-- GRANT_EVALUATION (R101). -/
  | grantEvaluation
  /-- SPACING_TIMER_EXPIRY (R102). -/
  | spacingTimerExpiry
  /-- CAR_LINE_SAMPLING: one 10 ms sample of both car lines (R111). `seatedFirst` says which edge is taken
  first when both lines give one in this sample (R124 leaves the order open). -/
  | carLineSampling (changeBegin newSeated seatedFirst : Bool)
  /-- CHANGE_WINDOW_EXPIRY (R122). -/
  | changeWindowExpiry
  /-- BUS_VOLTAGE_SAMPLING: one 10 ms sample of the drive-bus voltage (R128). -/
  | busVoltageSampling (volts : Nat)
  /-- SETTLE_TIMER_EXPIRY, with the measured speed presented at each terminal for the recoveries (R133, R139). -/
  | settleTimerExpiry (measured : Vector Nat 6)
  /-- RIDE_THROUGH_EXPIRY (R134). -/
  | rideThroughExpiry
  /-- TIME_COUNTER_TICK (R154). -/
  | timeCounterTick
  /-- REQUEST_LINE: the characters that complete a request line, the last of them its CR (R176). -/
  | requestLine (chars : Text)
  /-- REPLY_SENT: the last character of the reply has been sent (R180). `volts` is the bus voltage read as
  the start sample should this be the moment of a line-reset start (R127, R173). -/
  | replySent (volts : Nat)
  /-- STA (R181). -/
  | sta
  /-- GET IDENT (R182). -/
  | getIdent
  /-- GET STRAND n (R182). -/
  | getStrand (n : Nat)
  /-- GET LOG n or P (R162). -/
  | getLog (l : LogSel)
  /-- GET PLAN p (R54, R182). -/
  | getPlan (p : PlanSel)
  /-- GET SLOT p s (R182). -/
  | getSlot (p : PlanSel) (s : Nat)
  /-- GET CFG key (R182). -/
  | getCfg (key : CfgKey)
  /-- GET PERMIT (R109). -/
  | getPermit
  /-- GET STORE (R168). -/
  | getStore
  /-- GET CAUSE (R174, R183). -/
  | getCause
  /-- GET LINEERR (R177, R183). -/
  | getLineerr
  /-- GET TIME (R154). -/
  | getTime
  /-- PUT key=value ... (R165). -/
  | put (pairs : List (CfgKey × Value))
  /-- PLN p H ... (R42). -/
  | plnHeaderWrite (p : Nat) (h : Header)
  /-- PLN p s group ... (R43). -/
  | plnSlotWrite (p s : Nat) (groups : List Slot)
  /-- PLN p CLR (R44). -/
  | plnClr (p : Nat)
  /-- CHK p (R46). -/
  | chk (p : Nat)
  /-- BEG n [p], with BAR_SEATED and STRAND_READY as presented when the request is taken (R1, R33). -/
  | beg (n : Nat) (plan : Option Nat) (barSeated ready : Bool)
  /-- HLD n (R34). -/
  | hld (n : Nat)
  /-- HLD ALL, addressed or broadcast (R34). -/
  | hldAll (broadcast : Bool)
  /-- RES n [p] (R35). -/
  | res (n : Nat) (plan : Option Nat)
  /-- STP n (R36). -/
  | stp (n : Nat)
  /-- STP ALL, addressed or broadcast (R36). -/
  | stpAll (broadcast : Bool)
  /-- REL n, with the measured speed presented when the request is taken (R1, R37). -/
  | rel (n : Nat) (measured : Nat)
  /-- ACK n or P (R160). -/
  | ack (l : LogSel)
  /-- SAV (R167). -/
  | sav
  /-- RST (R173). -/
  | rst
  /-- SAVE_COMPLETION: whether the read-back agreed, and whether the write finished within 600 ms (R167, R168). -/
  | saveCompletion (readBackAgrees inTime : Bool)
  /-- SHUTDOWN: CONTROL_SUPPLY_FAILING asserts (R169). -/
  | shutdown
  /-- CONTROL_SUPPLY_FAILING_DEASSERT (R170). -/
  | controlSupplyFailingDeassert
  /-- POWER_APPLICATION, with the level of CONTROL_SUPPLY_FAILING at that moment (R170). -/
  | powerApplication (failing : Bool)
  /-- START: CONTROL_SUPPLY_FAILING has been deasserted for 100 ms; with the values at the six terminals
  (used by CONTROL_POWER_LOST, R156) and the bus voltage of the start sample (R127, R171). -/
  | start (terminals : Vector Sample 6) (volts : Nat)
  /-- CHARACTER_RECEIVED: a character code with its parity and framing error flags (R175). -/
  | characterReceived (code : Nat) (parityError framingError : Bool)
  /-- CONTROL_POWER_LOSS (R170). -/
  | controlPowerLoss
  /-- SNAPSHOT_COMPLETION (R169). -/
  | snapshotCompletion
  deriving DecidableEq, Repr

/-- The request a verb row stands for; the other rows are events that no request line carries. -/
def Instr.request? : Instr → Option Request
  | .controlPeriod _ _ => none
  | .grantEvaluation => none
  | .spacingTimerExpiry => none
  | .carLineSampling _ _ _ => none
  | .changeWindowExpiry => none
  | .busVoltageSampling _ => none
  | .settleTimerExpiry _ => none
  | .rideThroughExpiry => none
  | .timeCounterTick => none
  | .requestLine _ => none
  | .replySent _ => none
  | .sta => some .sta
  | .getIdent => some .getIdent
  | .getStrand n => some (.getStrand n)
  | .getLog l => some (.getLog l)
  | .getPlan p => some (.getPlan p)
  | .getSlot p s => some (.getSlot p s)
  | .getCfg k => some (.getCfg k)
  | .getPermit => some .getPermit
  | .getStore => some .getStore
  | .getCause => some .getCause
  | .getLineerr => some .getLineerr
  | .getTime => some .getTime
  | .put ps => some (.put ps)
  | .plnHeaderWrite p h => some (.plnHeader p h)
  | .plnSlotWrite p s gs => some (.plnSlots p s gs)
  | .plnClr p => some (.plnClr p)
  | .chk p => some (.chk p)
  | .beg n p _ _ => some (.beg n p)
  | .hld n => some (.hld n)
  | .hldAll b => some (.hldAll b)
  | .res n p => some (.res n p)
  | .stp n => some (.stp n)
  | .stpAll b => some (.stpAll b)
  | .rel n _ => some (.rel n)
  | .ack l => some (.ack l)
  | .sav => some .sav
  | .rst => some .rst
  | .saveCompletion _ _ => none
  | .shutdown => none
  | .controlSupplyFailingDeassert => none
  | .powerApplication _ => none
  | .start _ _ => none
  | .characterReceived _ _ _ => none
  | .controlPowerLoss => none
  | .snapshotCompletion => none

end Sys2Proof
end

