-- ==== Sys2Proof/Config.lean ====
section
/-! DEFINITION. The free values of the model: what the spec states no value for. None has a body, so no
proof can see what it is and every claim holds for every value of it. -/

namespace Sys2Proof

/-- The header a strand would read from a referenced plan that holds none. R49 says that no strand ever
references such a plan; the spec therefore states no value (assumption log 8). -/
opaque Config.absentHeader : PlanNo → Header

/-- The slot a strand would read at an undefined position of a referenced plan (R49; assumption log 8). -/
opaque Config.absentSlot : PlanNo → Nat → Slot

/-- The measured speed carried by a record that is made outside a control period at a strand that has had
no control period since the last start: R156 names its latest control-period sample, and there is none
(assumption log 9). It is an unsigned reading limited to 8000 like every measured speed (R1). -/
opaque Config.unsampledSpeed : Strand → Nat → Fin 8001

/-- The level carried by such a record (R156; assumption log 9): absent, or within 0 to 1500. -/
opaque Config.unsampledLevel : Strand → Nat → Option (Fin 1501)

end Sys2Proof
end

