-- ==== Sys2Proof/Machine/Settings.lean ====
section
/-! DEFINITION. The configuration items: their types, factory values, ranges and cross-checks (R147, R163,
R164), and the steering table as the kinds table of R146 fixes it. -/

namespace Sys2Proof.Machine

open Sys2Proof

/-- An action a steering item may hold (R147). -/
inductive Steer where
  | trip | hold | note
  deriving DecidableEq, Repr

/-- What a deviation does to its strand (R148). -/
inductive Action where
  | trip | hold | stop | note
  deriving DecidableEq, Repr

/-- PARITY (R164). -/
inductive Parity where
  | none | even
  deriving DecidableEq, Repr

/-- The configuration items of one strand (R163). -/
structure StrandCfg where
  vmax    : Nat
  amax    : Nat
  creep   : Nat
  lnorm   : Nat
  lhigh   : Nat
  llow    : Nat
  lfloor  : Nat
  drop    : Nat
  kp      : Nat
  ki      : Nat
  kff     : Nat
  umax    : Nat
  lagtol  : Nat
  lagt    : Nat
  fillt   : Nat
  pwait   : Nat
  defs    : Nat
  deft    : Nat
  defd    : Nat
  enabled : Bool
  deriving DecidableEq, Repr

/-- The plant configuration items (R164) with the steering table: ACT for kinds 2 to 12, ALM for kinds
2 to 14 and 17 to 19 (R147). -/
structure PlantCfg where
  pmax    : Nat
  gap     : Nat
  vdip    : Nat
  vok     : Nat
  tride   : Nat
  tsettle : Nat
  tchange : Nat
  addr    : Nat
  baud    : Nat
  parity  : Parity
  act     : Vector Steer 11
  alm     : Vector Bool 16
  deriving DecidableEq, Repr

/-- Every configuration item, as the image and working memory each hold it (R166). -/
structure Cfg where
  strands : Vector StrandCfg 6
  plant   : PlantCfg
  deriving DecidableEq, Repr

/-- The defaults of R163. -/
def StrandCfg.factory : StrandCfg where
  vmax := 4000
  amax := 20
  creep := 300
  lnorm := 1000
  lhigh := 1350
  llow := 600
  lfloor := 400
  drop := 80
  kp := 32
  ki := 16
  kff := 40
  umax := 800
  lagtol := 150
  lagt := 30
  fillt := 600
  pwait := 600
  defs := 0
  deft := 0
  defd := 0
  enabled := true

/-- The defaults of R164, and those of R146 for the steering table: ACT of BREAKOUT_SUSPECT, LEVEL_HIGH,
LEVEL_LOW, GAUGE_FAULT, FILL_TIMEOUT, INTERLOCK_LOST, DRIVE_LAG, RATE_CLAMP, RAMP_SHORT, SPEED_LIMIT,
PERMIT_WAIT, and ALM of kinds 2 to 14, 17, 18, 19. -/
def PlantCfg.factory : PlantCfg where
  pmax := 2
  gap := 20
  vdip := 850
  vok := 920
  tride := 1500
  tsettle := 500
  tchange := 90
  addr := 1
  baud := 19200
  parity := .none
  act := #v[.trip, .trip, .hold, .hold, .trip, .trip, .hold, .note, .note, .note, .note]
  alm := #v[true, true, true, true, true, true, true, false, false, false, true, true, true,
    false, false, true]

/-- The factory defaults (R164). -/
def Cfg.factory : Cfg where
  strands := Vector.replicate 6 StrandCfg.factory
  plant := PlantCfg.factory

/-! ## The kinds table of R146 -/

/-- The number of a kind, 1 to 19 (R146). -/
def kindNumber : Kind → Nat
  | .breakout => 1
  | .breakoutSuspect => 2
  | .levelHigh => 3
  | .levelLow => 4
  | .gaugeFault => 5
  | .fillTimeout => 6
  | .interlockLost => 7
  | .driveLag => 8
  | .rateClamp => 9
  | .rampShort => 10
  | .speedLimit => 11
  | .permitWait => 12
  | .noPlan => 13
  | .changeOverrun => 14
  | .supplyLost => 15
  | .controlPowerLost => 16
  | .supplyDip => 17
  | .carSequence => 18
  | .storeFault => 19

/-- The place of a kind's ACT item; absent for a kind whose action is fixed (R147: kinds 2 to 12). -/
def actPlace : Kind → Option (Fin 11)
  | .breakoutSuspect => some 0
  | .levelHigh => some 1
  | .levelLow => some 2
  | .gaugeFault => some 3
  | .fillTimeout => some 4
  | .interlockLost => some 5
  | .driveLag => some 6
  | .rateClamp => some 7
  | .rampShort => some 8
  | .speedLimit => some 9
  | .permitWait => some 10
  | .breakout | .noPlan | .changeOverrun | .supplyLost | .controlPowerLost | .supplyDip
  | .carSequence | .storeFault => none

/-- The place of a kind's ALM item; absent for a kind whose alarm is fixed (R147: kinds 2 to 14, 17 to 19). -/
def almPlace : Kind → Option (Fin 16)
  | .breakoutSuspect => some 0
  | .levelHigh => some 1
  | .levelLow => some 2
  | .gaugeFault => some 3
  | .fillTimeout => some 4
  | .interlockLost => some 5
  | .driveLag => some 6
  | .rateClamp => some 7
  | .rampShort => some 8
  | .speedLimit => some 9
  | .permitWait => some 10
  | .noPlan => some 11
  | .changeOverrun => some 12
  | .supplyDip => some 13
  | .carSequence => some 14
  | .storeFault => some 15
  | .breakout | .supplyLost | .controlPowerLost => none

/-- The fixed action of a kind without an ACT item (R146). SUPPLY_DIP has no action and CAR_SEQUENCE and
STORE_FAULT have NOTE; none of the three touches a strand. -/
def fixedAction : Kind → Action
  | .breakout | .supplyLost | .controlPowerLost => .trip
  | .changeOverrun => .stop
  | _ => .note

/-- The action of a steering item. -/
def steerAction : Steer → Action
  | .trip => .trip
  | .hold => .hold
  | .note => .note

/-- The action of a kind as the steering table has it now (R147). -/
def actionOf (c : Cfg) (k : Kind) : Action :=
  match actPlace k with
  | some i => steerAction c.plant.act[i]
  | none => fixedAction k

/-- The alarm of a kind as the steering table has it now: fixed on where there is no ALM item (R146, R147). -/
def alarmOf (c : Cfg) (k : Kind) : Bool :=
  match almPlace k with
  | some i => c.plant.alm[i]
  | none => true

/-! ## Reading and writing one item -/

/-- YES or NO. -/
def yesNo (b : Bool) : Value := if b then .yes else .no

/-- The value of one strand item. -/
def getStrandItem (c : StrandCfg) : StrandItem → Value
  | .vmax => .num c.vmax
  | .amax => .num c.amax
  | .creep => .num c.creep
  | .lnorm => .num c.lnorm
  | .lhigh => .num c.lhigh
  | .llow => .num c.llow
  | .lfloor => .num c.lfloor
  | .drop => .num c.drop
  | .kp => .num c.kp
  | .ki => .num c.ki
  | .kff => .num c.kff
  | .umax => .num c.umax
  | .lagtol => .num c.lagtol
  | .lagt => .num c.lagt
  | .fillt => .num c.fillt
  | .pwait => .num c.pwait
  | .defs => .num c.defs
  | .deft => .num c.deft
  | .defd => .num c.defd
  | .enabled => yesNo c.enabled

/-- The value of one plant item. -/
def getPlantItem (c : PlantCfg) : PlantItem → Value
  | .pmax => .num c.pmax
  | .gap => .num c.gap
  | .vdip => .num c.vdip
  | .vok => .num c.vok
  | .tride => .num c.tride
  | .tsettle => .num c.tsettle
  | .tchange => .num c.tchange
  | .addr => .num c.addr
  | .baud => .num c.baud
  | .parity => match c.parity with
    | .none => .parityNone
    | .even => .even

/-- A steering action as a value. -/
def steerValue : Steer → Value
  | .trip => .trip
  | .hold => .hold
  | .note => .note

/-- The value of one item (R165, last paragraph); `none` for an ACT or ALM key of a fixed kind, which is no
configuration key (R147). -/
def getItem (c : Cfg) : CfgKey → Option Value
  | .strand i n => some (getStrandItem c.strands[n] i)
  | .plant i => some (getPlantItem c.plant i)
  | .act k => (actPlace k).map fun i => steerValue c.plant.act[i]
  | .alm k => (almPlace k).map fun i => if c.plant.alm[i] then .on else .off

/-- One strand item set to a number. -/
def setStrandNum (c : StrandCfg) (v : Nat) : StrandItem → StrandCfg
  | .vmax => { c with vmax := v }
  | .amax => { c with amax := v }
  | .creep => { c with creep := v }
  | .lnorm => { c with lnorm := v }
  | .lhigh => { c with lhigh := v }
  | .llow => { c with llow := v }
  | .lfloor => { c with lfloor := v }
  | .drop => { c with drop := v }
  | .kp => { c with kp := v }
  | .ki => { c with ki := v }
  | .kff => { c with kff := v }
  | .umax => { c with umax := v }
  | .lagtol => { c with lagtol := v }
  | .lagt => { c with lagt := v }
  | .fillt => { c with fillt := v }
  | .pwait => { c with pwait := v }
  | .defs => { c with defs := v }
  | .deft => { c with deft := v }
  | .defd => { c with defd := v }
  | .enabled => c

/-- One strand item set to a value it takes (other values never reach it: R165). -/
def setStrandItem (c : StrandCfg) (i : StrandItem) : Value → StrandCfg
  | .num v => setStrandNum c v i
  | .yes => if i = .enabled then { c with enabled := true } else c
  | .no => if i = .enabled then { c with enabled := false } else c
  | _ => c

/-- One plant item set to a number. -/
def setPlantNum (c : PlantCfg) (v : Nat) : PlantItem → PlantCfg
  | .pmax => { c with pmax := v }
  | .gap => { c with gap := v }
  | .vdip => { c with vdip := v }
  | .vok => { c with vok := v }
  | .tride => { c with tride := v }
  | .tsettle => { c with tsettle := v }
  | .tchange => { c with tchange := v }
  | .addr => { c with addr := v }
  | .baud => { c with baud := v }
  | .parity => c

/-- One plant item set to a value it takes. -/
def setPlantItem (c : PlantCfg) (i : PlantItem) : Value → PlantCfg
  | .num v => setPlantNum c v i
  | .parityNone => if i = .parity then { c with parity := .none } else c
  | .even => if i = .parity then { c with parity := .even } else c
  | _ => c

/-- A steering action named by a value. -/
def steerOf : Value → Option Steer
  | .trip => some .trip
  | .hold => some .hold
  | .note => some .note
  | _ => none

/-- One item set to a value it takes (R165). -/
def setItem (c : Cfg) (key : CfgKey) (v : Value) : Cfg :=
  match key with
  | .strand i n => { c with strands := c.strands.set n (setStrandItem c.strands[n] i v) }
  | .plant i => { c with plant := setPlantItem c.plant i v }
  | .act k =>
    match actPlace k, steerOf v with
    | some i, some a => { c with plant := { c.plant with act := c.plant.act.set i a } }
    | _, _ => c
  | .alm k =>
    match almPlace k, v with
    | some i, .on => { c with plant := { c.plant with alm := c.plant.alm.set i true } }
    | some i, .off => { c with plant := { c.plant with alm := c.plant.alm.set i false } }
    | _, _ => c

/-! ## Ranges and cross-checks -/

/-- The range of a strand item that takes a number (R163). -/
def strandRange : StrandItem → Nat × Nat
  | .vmax => (500, 7000)
  | .amax => (1, 200)
  | .creep => (0, 1000)
  | .lnorm => (300, 1300)
  | .lhigh => (500, 1500)
  | .llow => (100, 1200)
  | .lfloor => (0, 1000)
  | .drop => (10, 500)
  | .kp | .ki | .kff => (0, 255)
  | .umax => (100, 1000)
  | .lagtol => (20, 2000)
  | .lagt => (1, 600)
  | .fillt => (50, 3000)
  | .pwait => (50, 6000)
  | .defs | .deft | .defd => (0, 12)
  | .enabled => (1, 0)

/-- The range of a plant item that takes a number (R164); BAUD takes five single values. -/
def plantRange : PlantItem → Nat × Nat
  | .pmax => (1, 3)
  | .gap => (0, 100)
  | .vdip => (500, 950)
  | .vok => (520, 1000)
  | .tride => (100, 10000)
  | .tsettle => (100, 5000)
  | .tchange => (20, 300)
  | .addr => (1, 31)
  | .baud | .parity => (1, 0)

/-- The values of BAUD (R164). -/
def baudRates : List Nat := [9600, 19200, 38400, 57600, 115200]

/-- Within a range, both ends included. -/
def within (r : Nat × Nat) (v : Nat) : Bool := r.1 ≤ v && v ≤ r.2

/-- Whether an item takes a value: the range test of R165 (test 2), with R147 for the steering table. -/
def accepts : CfgKey → Value → Bool
  | .strand .enabled _, v => v == .yes || v == .no
  | .strand i _, .num v => within (strandRange i) v
  | .strand _ _, _ => false
  | .plant .parity, v => v == .parityNone || v == .even
  | .plant .baud, .num v => baudRates.contains v
  | .plant i, .num v => within (plantRange i) v
  | .plant _, _ => false
  | .act k, v => (actPlace k).isSome && (steerOf v).isSome
  | .alm k, v => (almPlace k).isSome && (v == .on || v == .off)

/-- The cross-check of a strand item (R163), on the resulting set of values. -/
def strandCross (c : StrandCfg) : StrandItem → Bool
  | .lnorm => c.lnorm < c.lhigh && c.llow < c.lnorm
  | .lhigh => c.lnorm < c.lhigh
  | .llow => c.llow < c.lnorm && c.lfloor ≤ c.llow
  | .lfloor => c.lfloor ≤ c.llow
  | _ => true

/-- The cross-check of an item on the resulting set of values (R163, R164, R165 test 3). -/
def crossCheck (c : Cfg) : CfgKey → Bool
  | .strand i n => strandCross c.strands[n] i
  | .plant .vdip | .plant .vok => c.plant.vdip + 20 ≤ c.plant.vok
  | _ => true

end Sys2Proof.Machine
end

