-- ==== Sys2Proof/Machine/Blocks.lean ====
section
/-! DEFINITION. What each of the ten blocks of 00_scope holds, as plain data, and the values a power-on
start gives them. -/

namespace Sys2Proof.Machine

open Sys2Proof

/-! ## Strand Sequencer, Ramp Generator and Level Loop -/

/-- The eleven strand states (R3). -/
inductive StrandState where
  | idle | fill | dwell | waitPermit | ramp | cast | held | change | frozen | stopping | tripped
  deriving DecidableEq, Repr

/-- Values of hold_return (R3). -/
inductive HoldReturn where
  | fill | dwell | waitPermit | ramp
  deriving DecidableEq, Repr

/-- Values of freeze_return (R3). -/
inductive FreezeReturn where
  | fill | dwell | waitPermit | ramp | cast | held | change
  deriving DecidableEq, Repr

/-- The modes of the Level Loop (section 4.2). -/
inductive LoopMode where
  | off | closed | holdLast
  deriving DecidableEq, Repr

/-- A plan reference (R3, R48): a stored plan with the revision taken with the reference, or plan F. -/
inductive PlanRef where
  | plan (p : PlanNo) (rev : Nat)
  | fallback
  deriving DecidableEq, Repr

/-- The slot fields other than the slot target, which are present together (R3, R59): slot index, period
count k, slot origin S0, slot length N and step mode. -/
structure SlotRun where
  index : Nat
  k     : Nat
  s0    : Nat
  n     : Nat
  step  : StepMode
  deriving DecidableEq, Repr

/-- Peak and valley level, present or absent together (R77). -/
structure Extremes where
  peak   : Nat
  valley : Nat
  deriving DecidableEq, Repr

/-- The Strand Context (R3). Speeds are internal units of 1/16 mm/min. -/
structure Ctx where
  state         : StrandState
  holdReturn    : Option HoldReturn
  freezeReturn  : Option FreezeReturn
  kind          : Option RestartKind
  plan          : Option PlanRef
  slot          : Option SlotRun
  target        : Option Nat
  speed         : Nat
  resume        : Option Nat
  timer         : Nat
  timeoutNoted  : Bool
  levelTarget   : Nat
  stopper       : Nat
  integrator    : Int
  mode          : LoopMode
  history       : List Nat
  permit        : Bool
  extremes      : Option Extremes
  lag           : Nat
  floorReached  : Bool
  rateNoted     : Bool
  limitNoted    : Bool
  deriving DecidableEq, Repr

/-! ## Deviation Log -/

/-- A strand record (R156). -/
structure StrandRec where
  kind     : Kind
  time     : Nat
  state    : StrandState
  restart  : Option RestartKind
  plan     : Option PlanRef
  slot     : Option Nat
  speedOut : Nat
  measured : Nat
  level    : Option Nat
  stopper  : Nat
  mark     : Bool
  deriving DecidableEq, Repr

/-- The states of the Supply Monitor (R127). -/
inductive MonitorState where
  | normal | dip | settling | outage
  deriving DecidableEq, Repr

/-- The states of the Change Coordinator (R110). -/
inductive ChangeState where
  | noChange | changing
  deriving DecidableEq, Repr

/-- A plant record (R157). -/
structure PlantRec where
  kind     : Kind
  time     : Nat
  monitor  : MonitorState
  change   : ChangeState
  volts    : Nat
  mark     : Bool
  affected : List Strand
  deriving DecidableEq, Repr

/-- One entry of a Next set (R155). -/
structure NextEntry where
  kind : Kind
  mark : Bool
  deriving DecidableEq, Repr

/-- A log (R155): at most one First record, and the Next set in ascending kind number, each kind once. -/
structure Log (ρ : Type) where
  first : Option ρ
  next  : List NextEntry
  deriving DecidableEq, Repr

/-- The condition kinds (R153). -/
inductive Cond where
  | breakout | levelHigh | levelLow | gaugeFault | interlockLost | driveLag
  deriving DecidableEq, Repr

/-- The active-condition set of a strand (R153): for each condition kind, whether it is a member. -/
structure ActiveSet where
  breakout      : Bool
  levelHigh     : Bool
  levelLow      : Bool
  gaugeFault    : Bool
  interlockLost : Bool
  driveLag      : Bool
  deriving DecidableEq, Repr

/-- What is held for one strand: its context, the settings in force since its latest control period (R55,
R84), its latest control-period sample (R156; absent before the first period after a start), how many valid samples it
has taken with the loop CLOSED since the loop left OFF, counted up to 4 (R92; the model's own, assumption log 28), its
active-condition set and log, and its three outputs as last driven (R2). -/
structure Block where
  ctx        : Ctx
  force      : StrandCfg
  sampled    : Option (Nat × Option Nat)
  refilled   : Nat
  active     : ActiveSet
  log        : Log StrandRec
  outSpeed   : Nat
  outStopper : Nat
  outTrip    : Bool
  deriving DecidableEq, Repr

/-! ## Plan Table -/

/-- The states of a plan (R38). -/
inductive PlanState where
  | empty | draft | valid
  deriving DecidableEq, Repr

/-- A plan record (R38). -/
structure Plan where
  state  : PlanState
  rev    : Nat
  header : Option Header
  slots  : Vector (Option Slot) 16
  deriving DecidableEq, Repr

/-! ## Permit Arbiter, Change Coordinator, Supply Monitor -/

/-- An entry of the waiting queue (R95). -/
structure QEntry where
  strand : Strand
  cls    : Nat
  time   : Nat
  deriving DecidableEq, Repr

/-- The Permit Arbiter (R95): holders in ascending strand number, the queue head first, and the spacing
timer, absent when stopped, else its time remaining in ms. -/
structure Arbiter where
  holders : List Strand
  queue   : List QEntry
  spacing : Option Nat
  deriving DecidableEq, Repr

/-- The Change Coordinator (R110). A taken level is `true` when it is asserted. -/
structure Coordinator where
  state       : ChangeState
  window      : Option Nat
  takenBegin  : Bool
  takenSeated : Bool
  runBegin    : Nat
  runSeated   : Nat
  deriving DecidableEq, Repr

/-- The Supply Monitor (R127). The last two fields are the model's own and keep apart what falls together at one
sampling moment (R137, assumption log 3): whether the settle timer has been restarted there, so that the expiry of its
earlier run does not follow, and whether it was started by a ride-through expiry taken ahead of that moment's sample. -/
structure Monitor where
  state       : MonitorState
  sample      : Nat
  low         : Nat
  ride        : Option Nat
  settle      : Option Nat
  settleCut   : Bool
  settleAhead : Bool
  deriving DecidableEq, Repr

/-! ## Settings Store -/

/-- The reset-cause flags (R174). -/
structure Flags where
  powerOn      : Bool
  powerReturn  : Bool
  lineReset    : Bool
  storeInvalid : Bool
  deriving DecidableEq, Repr

/-- What the valid marker of the image covers (R166). -/
structure ImageData where
  plans : Vector Plan 12
  cfg   : Cfg
  deriving DecidableEq, Repr

/-- The non-volatile image (R166): its marker, its data (absent while it has never been written) and,
outside what the marker covers, the save count. -/
structure Image where
  valid : Bool
  data  : Option ImageData
  count : Nat
  deriving DecidableEq, Repr

/-- What the snapshot holds (R169). -/
structure SnapData where
  ctxs     : Vector Ctx 6
  logs     : Vector (Log StrandRec) 6
  plantLog : Log PlantRec
  time     : Nat
  flags    : Flags
  deriving DecidableEq, Repr

/-- The power-fail snapshot (R169): its marker, whether its write is in progress, and its data. -/
structure Snapshot where
  valid   : Bool
  writing : Bool
  data    : Option SnapData
  deriving DecidableEq, Repr

/-- The Settings Store: SAVING or IDLE, last result, image, snapshot, flags and time counter
(R154, R166 to R174). -/
structure Store where
  saving   : Bool
  lastOk   : Bool
  image    : Image
  snapshot : Snapshot
  flags    : Flags
  time     : Nat
  deriving DecidableEq, Repr

/-! ## Service Line Interface and control power -/

/-- The receive states (chapter 10). -/
inductive RecvState where
  | betweenLines | inLine | answering
  deriving DecidableEq, Repr

/-- The Service Line Interface: receive state and buffer, line error counter, the line settings in force,
the requests judged and handed to their owners but not yet taken (R179), the reply being sent, whether the
next character would be the first since the CR of the request and whether the ANSWERING span has been
counted (R175), and whether a line-reset start waits for the reply's last character (R173). -/
structure Line where
  recv        : RecvState
  buffer      : Text
  errors      : Nat
  addr        : Nat
  baud        : Nat
  parity      : Parity
  handed      : List Request
  reply       : Option Text
  firstChar   : Bool
  spanCounted : Bool
  resetArmed  : Bool
  deriving DecidableEq, Repr

/-- The control power of the part (R169, R170): operating; in SHUTDOWN; powered and waiting for its start
after an application of power; without power. -/
inductive Phase where
  | running | shutdown | holding | unpowered
  deriving DecidableEq, Repr

/-! ## Values after a power-on start -/

/-- The Strand Context after a power-on start (R5), with the LNORM loaded at the start. -/
def Ctx.powerOn (lnorm : Nat) : Ctx where
  state := .idle
  holdReturn := none
  freezeReturn := none
  kind := none
  plan := none
  slot := none
  target := none
  speed := 0
  resume := none
  timer := 0
  timeoutNoted := false
  levelTarget := lnorm
  stopper := 0
  integrator := 0
  mode := .off
  history := []
  permit := false
  extremes := none
  lag := 0
  floorReached := false
  rateNoted := false
  limitNoted := false

/-- The empty active-condition set (R153). -/
def ActiveSet.empty : ActiveSet := ⟨false, false, false, false, false, false⟩

/-- A log without records. -/
def Log.empty {ρ : Type} : Log ρ := ⟨none, []⟩

/-- A plan as the factory defaults have it: EMPTY at revision 0 (R39, R164). -/
def Plan.blank : Plan where
  state := .empty
  rev := 0
  header := none
  slots := Vector.replicate 16 none

end Sys2Proof.Machine
end

