-- ==== Sys2Proof/Machine/State.lean ====
section
/-! DEFINITION. The state of the part, the reasons a step can stop, and the state after reset. -/

namespace Sys2Proof.Machine

open Sys2Proof

/-! ## Why a step can stop -/

/-- Faults. There is none: the spec names no event after which the part stops. -/
inductive Fault where
  deriving DecidableEq, Repr

/-- Refusals. -/
inductive Refusal where
  /-- Raised by a dispatch arm whose command has no meaning in the model yet; safe. No arm raises it now. -/
  | notModelled (mnemonic : String)
  deriving DecidableEq, Repr

/-- The state of the part. `failing` is the level of CONTROL_SUPPLY_FAILING, `alarm` the ALARM line as
driven, and `pending` the commands that wait, first in first out. -/
structure State where
  strands  : Vector Block 6
  plans    : Vector Plan 12
  arb      : Arbiter
  coord    : Coordinator
  mon      : Monitor
  plantLog : Log PlantRec
  cfg      : Cfg
  store    : Store
  line     : Line
  phase    : Phase
  failing  : Bool
  alarm    : Bool
  pending  : List Instr
  deriving DecidableEq, Repr

/-! ## After reset -/

/-- The state after reset: a power-on start (R5, R95, R110, R127, R154, R158, R168, R171, R174) of a part
whose image and snapshot have never been written (R166), so that it runs on the factory defaults and
STORE_INVALID is set. DESIGN CHOICE, assumption log 1: the start sample of the bus is the nominal 1000. -/
def State.reset : State where
  strands := Vector.replicate 6
    { ctx := Ctx.powerOn StrandCfg.factory.lnorm
      force := StrandCfg.factory
      sampled := none
      refilled := 0
      active := ActiveSet.empty
      log := Log.empty
      outSpeed := 0
      outStopper := 0
      outTrip := false }
  plans := Vector.replicate 12 Plan.blank
  arb := { holders := [], queue := [], spacing := none }
  coord :=
    { state := .noChange
      window := none
      takenBegin := true
      takenSeated := true
      runBegin := 0
      runSeated := 0 }
  mon :=
    { state := .outage
      sample := 1000
      low := 0
      ride := none
      settle := some 500
      settleCut := false
      settleAhead := false }
  plantLog := Log.empty
  cfg := Cfg.factory
  store :=
    { saving := false
      lastOk := true
      image := { valid := false, data := none, count := 0 }
      snapshot := { valid := false, writing := false, data := none }
      flags := { powerOn := true, powerReturn := false, lineReset := false, storeInvalid := true }
      time := 0 }
  line :=
    { recv := .betweenLines
      buffer := []
      errors := 0
      addr := 1
      baud := 19200
      parity := .none
      handed := []
      reply := none
      firstChar := false
      spanCounted := false
      resetArmed := false }
  phase := .running
  failing := false
  alarm := false
  pending := []

end Sys2Proof.Machine
end

