-- ==== Sys2Proof/Machine/Text.lean ====
section
/-! DEFINITION. The printable text of the service line: numbers, words, check sums and the tokens of a
request line (R176, R179, R180), and the names that stand for states, kinds and keys on the line. -/

namespace Sys2Proof.Machine

open Sys2Proof

/-! ## Numbers and words -/

/-- Decimal digits of `n` before `acc`; `fuel` bounds their number. -/
def decimalAux : Nat → Nat → Text → Text
  | 0, _, acc => acc
  | fuel + 1, n, acc =>
    if n < 10 then (48 + n) :: acc else decimalAux fuel (n / 10) ((48 + n % 10) :: acc)

/-- A number in decimal without leading zeros (R180). -/
def decimal (n : Nat) : Text := decimalAux (n.log2 + 1) n []

/-- An integer in decimal; a negative one carries a minus sign (assumption log 12). -/
def signedDecimal : Int → Text
  | .ofNat n => decimal n
  | .negSucc n => 45 :: decimal (n + 1)

/-- An absent optional field is written `-` (R180). -/
def optional {α : Type} (f : α → Text) : Option α → Text
  | some a => f a
  | none => word "-"

/-- Yes and no are `Y` and `N` (R180). -/
def yn (b : Bool) : Text := if b then word "Y" else word "N"

/-- The parts of one element, joined by `:` (R180). -/
def joinColon : List Text → Text
  | [] => []
  | [t] => t
  | t :: ts => t ++ 58 :: joinColon ts

/-- A list is its count followed by its elements (R180). -/
def listFields (l : List Text) : List Text := decimal l.length :: l

/-- One hexadecimal digit in capitals. -/
def hexDigit (n : Nat) : Nat := if n < 10 then 48 + n else 55 + n

/-- The two capital hexadecimal digits of the check of `covered`: the sum of its codes modulo 256 (R176). -/
def checkDigits (covered : Text) : Text :=
  let c := covered.sum % 256
  [hexDigit (c / 16), hexDigit (c % 16)]

/-- The fields of a line, each preceded by a single space (R180). -/
def spaced : List Text → Text
  | [] => []
  | t :: ts => 32 :: t ++ spaced ts

/-- The two decimal digits of an address. -/
def addressDigits (addr : Nat) : Text := [48 + addr / 10 % 10, 48 + addr % 10]

/-- An answer before it is written as a line: OK with its fields, or NO with its reason word and fields. -/
structure Reply where
  ok     : Bool
  fields : List Text
  deriving DecidableEq, Repr

/-- The answer OK with fields. -/
def okWith (fields : List Text) : Reply := ⟨true, fields⟩

/-- The plain answer OK. -/
def okPlain : Reply := ⟨true, []⟩

/-- The answer NO with a reason word and what it names. -/
def noFor (reason : String) (named : List Text) : Reply := ⟨false, word reason :: named⟩

/-- A reply line: `<`, address, `OK` or `NO`, the fields, a space, `*`, the check, CR, LF (R180). The check
covers the first address digit up to and including the space before `*`. -/
def replyLine (addr : Nat) (r : Reply) : Text :=
  let covered := addressDigits addr ++ spaced ((if r.ok then word "OK" else word "NO") :: r.fields) ++ [32]
  60 :: covered ++ 42 :: checkDigits covered ++ [13, 10]

/-! ## Names on the line -/

/-- Two-letter strand state codes (00_scope, "State codes"). -/
def stateCode : StrandState → Text
  | .idle => word "ID"
  | .fill => word "FL"
  | .dwell => word "DW"
  | .waitPermit => word "WP"
  | .ramp => word "RP"
  | .cast => word "CS"
  | .held => word "HD"
  | .change => word "CH"
  | .frozen => word "FZ"
  | .stopping => word "SP"
  | .tripped => word "TR"

/-- The strand state a hold_return names. -/
def holdState : HoldReturn → StrandState
  | .fill => .fill
  | .dwell => .dwell
  | .waitPermit => .waitPermit
  | .ramp => .ramp

/-- The strand state a freeze_return names. -/
def freezeState : FreezeReturn → StrandState
  | .fill => .fill
  | .dwell => .dwell
  | .waitPermit => .waitPermit
  | .ramp => .ramp
  | .cast => .cast
  | .held => .held
  | .change => .change

/-- Restart kinds by name. -/
def restartWord : RestartKind → Text
  | .start => word "START"
  | .tundish => word "TUNDISH"
  | .dip => word "DIP"

/-- Monitor states by name. -/
def monitorWord : MonitorState → Text
  | .normal => word "NORMAL"
  | .dip => word "DIP"
  | .settling => word "SETTLING"
  | .outage => word "OUTAGE"

/-- Change states by name. -/
def changeWord : ChangeState → Text
  | .noChange => word "NO_CHANGE"
  | .changing => word "CHANGING"

/-- Plan states by name. -/
def planStateWord : PlanState → Text
  | .empty => word "EMPTY"
  | .draft => word "DRAFT"
  | .valid => word "VALID"

/-- Loop modes by name. -/
def modeWord : LoopMode → Text
  | .off => word "OFF"
  | .closed => word "CLOSED"
  | .holdLast => word "HOLD_LAST"

/-- A strand by its number. -/
def strandText (n : Strand) : Text := decimal (n.val + 1)

/-- A plan reference as `p:rev` or `F` (R182). -/
def planRefText : PlanRef → Text
  | .plan p rev => joinColon [decimal (p.val + 1), decimal rev]
  | .fallback => word "F"

/-- AUTO or the step (R182). -/
def stepText : StepMode → Text
  | .auto => word "AUTO"
  | .override o => decimal o

/-- A slot target: number or RESUME (R182). -/
def targetText : Target → Text
  | .speed v => decimal v
  | .resume => word "RESUME"

/-- A kind by its number (R182). -/
def kindText (k : Kind) : Text := decimal (kindNumber k)

/-- All kinds in ascending number. -/
def allKinds : List Kind :=
  [.breakout, .breakoutSuspect, .levelHigh, .levelLow, .gaugeFault, .fillTimeout, .interlockLost,
   .driveLag, .rateClamp, .rampShort, .speedLimit, .permitWait, .noPlan, .changeOverrun, .supplyLost,
   .controlPowerLost, .supplyDip, .carSequence, .storeFault]

/-- A kind by its name (R146). -/
def kindName : Kind → Text
  | .breakout => word "BREAKOUT"
  | .breakoutSuspect => word "BREAKOUT_SUSPECT"
  | .levelHigh => word "LEVEL_HIGH"
  | .levelLow => word "LEVEL_LOW"
  | .gaugeFault => word "GAUGE_FAULT"
  | .fillTimeout => word "FILL_TIMEOUT"
  | .interlockLost => word "INTERLOCK_LOST"
  | .driveLag => word "DRIVE_LAG"
  | .rateClamp => word "RATE_CLAMP"
  | .rampShort => word "RAMP_SHORT"
  | .speedLimit => word "SPEED_LIMIT"
  | .permitWait => word "PERMIT_WAIT"
  | .noPlan => word "NO_PLAN"
  | .changeOverrun => word "CHANGE_OVERRUN"
  | .supplyLost => word "SUPPLY_LOST"
  | .controlPowerLost => word "CONTROL_POWER_LOST"
  | .supplyDip => word "SUPPLY_DIP"
  | .carSequence => word "CAR_SEQUENCE"
  | .storeFault => word "STORE_FAULT"

/-- The strand items in the order of R163. -/
def allStrandItems : List StrandItem :=
  [.vmax, .amax, .creep, .lnorm, .lhigh, .llow, .lfloor, .drop, .kp, .ki, .kff, .umax, .lagtol, .lagt,
   .fillt, .pwait, .defs, .deft, .defd, .enabled]

/-- A strand item by its name (R163). -/
def strandItemName : StrandItem → Text
  | .vmax => word "VMAX"
  | .amax => word "AMAX"
  | .creep => word "CREEP"
  | .lnorm => word "LNORM"
  | .lhigh => word "LHIGH"
  | .llow => word "LLOW"
  | .lfloor => word "LFLOOR"
  | .drop => word "DROP"
  | .kp => word "KP"
  | .ki => word "KI"
  | .kff => word "KFF"
  | .umax => word "UMAX"
  | .lagtol => word "LAGTOL"
  | .lagt => word "LAGT"
  | .fillt => word "FILLT"
  | .pwait => word "PWAIT"
  | .defs => word "DEFS"
  | .deft => word "DEFT"
  | .defd => word "DEFD"
  | .enabled => word "ENABLED"

/-- The plant items in the order of R164. -/
def allPlantItems : List PlantItem :=
  [.pmax, .gap, .vdip, .vok, .tride, .tsettle, .tchange, .addr, .baud, .parity]

/-- A plant item by its name (R164). -/
def plantItemName : PlantItem → Text
  | .pmax => word "PMAX"
  | .gap => word "GAP"
  | .vdip => word "VDIP"
  | .vok => word "VOK"
  | .tride => word "TRIDE"
  | .tsettle => word "TSETTLE"
  | .tchange => word "TCHANGE"
  | .addr => word "ADDR"
  | .baud => word "BAUD"
  | .parity => word "PARITY"

/-- A configuration key as it is written: NAME.n, NAME, ACT.kind or ALM.kind (R147, R163, R164). -/
def keyText : CfgKey → Text
  | .strand i n => strandItemName i ++ 46 :: strandText n
  | .plant i => plantItemName i
  | .act k => word "ACT." ++ kindName k
  | .alm k => word "ALM." ++ kindName k

/-- A configuration value as it is written, in a PUT and in the reply to GET CFG: in the words of its table's range (R147,
R163, R164). ENABLED.n is therefore reported as YES or NO, and not as the Y and N R180 gives the yes-or-no fields of a
reply (assumption log 31). -/
def valueText : Value → Text
  | .num v => decimal v
  | .yes => word "YES"
  | .no => word "NO"
  | .parityNone => word "NONE"
  | .even => word "EVEN"
  | .trip => word "TRIP"
  | .hold => word "HOLD"
  | .note => word "NOTE"
  | .on => word "ON"
  | .off => word "OFF"
  | .other => []

/-! ## Reading a request line -/

/-- The text cut at every character `c`; two in a row leave an empty piece between them. -/
def splitAtEvery (c : Nat) : Text → List Text
  | [] => [[]]
  | x :: xs =>
    if x = c then [] :: splitAtEvery c xs
    else
      match splitAtEvery c xs with
      | [] => [[x]]
      | t :: ts => (x :: t) :: ts

/-- The text cut at the first character `c`, if there is one; what stands after it may hold `c` again (assumption log 13). -/
def cutAtFirst (c : Nat) : Text → Option (Text × Text)
  | [] => none
  | x :: xs => if x = c then some ([], xs) else (cutAtFirst c xs).map fun p => (x :: p.1, p.2)

/-- A decimal digit. -/
def isDigit (c : Nat) : Bool := 48 ≤ c && c ≤ 57

/-- The value of a run of decimal digits. -/
def digitsValue (t : Text) : Nat := t.foldl (fun v c => 10 * v + (c - 48)) 0

/-- How one argument or value reads. A number has 1 to 6 decimal digits and no sign (R179, test 2); a longer
run of digits, or one with a sign, is a malformed number (assumption log 13). -/
inductive Arg where
  | num (v : Nat)
  | badNum
  | other
  deriving DecidableEq, Repr

/-- A run of decimal digits, at least one. -/
def isDigits (t : Text) : Bool := !t.isEmpty && t.all isDigit

/-- Without one leading sign, `+` or `-`. -/
def dropSign : Text → Text
  | 43 :: t => t
  | 45 :: t => t
  | t => t

/-- The reading of one argument. -/
def readArg (t : Text) : Arg :=
  if isDigits t then (if t.length ≤ 6 then .num (digitsValue t) else .badNum)
  else if isDigits (dropSign t) then .badNum
  else .other

/-- A number outside every range of the manual. A word that stands where R38 has a number is judged as this
number, so that test 2 of R41 refuses it with RANGE (assumption log 13). -/
def offRange : Nat := 1000000

/-- A number where only a number may stand; `none` is a syntax failure. `ALL`, `F` and every other word are no number
there: in a slot position's place, as in `GET SLOT p ALL` and `PLN p ALL group`, the form of test 2 fails before test 4
is reached, while in a strand's or a plan's place `ALL` fails test 4 (assumption log 13). -/
def numberArg (t : Text) : Option Nat :=
  match readArg t with
  | .num v => some v
  | _ => none

/-- A strand number. `ALL` is judged as the number 0, which lies outside 1 to 6 (R179, test 4; assumption log 13). -/
def strandArg (t : Text) : Option Nat := if t = word "ALL" then some 0 else numberArg t

/-- A plan number. `F` and `ALL` are judged as the number 0, which lies outside 1 to 12 (R41, R179). Any other word has not
the form of a plan number and fails test 2 (assumption log 13). -/
def planArg (t : Text) : Option Nat :=
  if t = word "F" ∨ t = word "ALL" then some 0 else numberArg t

/-- A plan number or F, for the reads that allow F (R182). -/
def planSelArg (t : Text) : Option PlanSel :=
  if t = word "F" then some .fallback else (planArg t).map .plan

/-- A strand number or P (R185). -/
def logSelArg (t : Text) : Option LogSel :=
  if t = word "P" then some .plant else (strandArg t).map .strand

/-- A numeric plan value: a malformed number is a syntax failure, a word is out of range (assumption log 13). -/
def planValue (t : Text) : Option Nat :=
  match readArg t with
  | .num v => some v
  | .badNum => none
  | .other => some offRange

/-- A slot target as written (R41). -/
def targetArg (t : Text) : Option Target :=
  if t = word "RESUME" then some .resume else (planValue t).map .speed

/-- A slot step as written (R41). -/
def stepArg (t : Text) : Option StepMode :=
  if t = word "AUTO" then some .auto else (planValue t).map .override

/-- A slot group: four values joined by commas (R41, test 1). -/
def groupArg (t : Text) : Option Slot :=
  match splitAtEvery 44 t with
  | [a, b, c, d] =>
    if a.isEmpty || b.isEmpty || c.isEmpty || d.isEmpty then none
    else
      match targetArg a, planValue b, planValue c, stepArg d with
      | some target, some duration, some level, some step => some ⟨target, duration, level, step⟩
      | _, _, _, _ => none
  | _ => none

/-- A restart kind by name. -/
def restartOf (t : Text) : Option RestartKind :=
  if t = word "START" then some .start
  else if t = word "TUNDISH" then some .tundish
  else if t = word "DIP" then some .dip
  else none

/-- The words configuration items take (R147, R163, R164). -/
def valueWords : List Value := [.yes, .no, .parityNone, .even, .trip, .hold, .note, .on, .off]

/-- A configuration value as written; `none` is a malformed number (assumption log 13). -/
def valueArg (t : Text) : Option Value :=
  match readArg t with
  | .num v => some (.num v)
  | .badNum => none
  | .other => some ((valueWords.find? fun w => valueText w == t).getD .other)

/-- Every configuration key a PUT may name: the items of R163 and R164, and ACT and ALM for any kind name
of R146 (R179, test 3). -/
def putKeys : List CfgKey :=
  (allStrandItems.map fun i => allStrands.map fun n => CfgKey.strand i n).flatten
    ++ allPlantItems.map .plant ++ allKinds.map .act ++ allKinds.map .alm

/-- The key PUT reads in a text. -/
def putKeyOf (t : Text) : Option CfgKey := putKeys.find? fun k => keyText k == t

/-- A key that exists: a fixed kind has no ACT or ALM item (R147). -/
def keyExists : CfgKey → Bool
  | .strand _ _ => true
  | .plant _ => true
  | .act k => (actPlace k).isSome
  | .alm k => (almPlace k).isSome

/-- The key GET CFG reads in a text (R179, test 3). -/
def cfgKeyOf (t : Text) : Option CfgKey :=
  (putKeyOf t).bind fun k => if keyExists k then some k else none

end Sys2Proof.Machine
end

