-- ==== Sys2Proof/Machine/Operands.lean ====
section
/-! DEFINITION. What a command brings with it, read the way the part reads it: terminal samples (R1),
numbered strands, plans and slots with their ranges (R38, R179), and the fields of a referenced plan (R50). -/

namespace Sys2Proof.Machine

open Sys2Proof

/-! ## Samples -/

/-- The values a control period works on (R1): the level if the sample is valid, the limited measured speed,
and the two flags its checks read. -/
structure Reading where
  level    : Option Nat
  measured : Nat
  ready    : Bool
  breakout : Bool
  deriving DecidableEq, Repr

/-- A measured speed above 8000 mm/min is taken as 8000 (R1). -/
def limitMeasured (m : Nat) : Nat := min m 8000

/-- A level sample is valid when its gauge vouches for it and it lies within 0 to 1500 (R1). -/
def validLevel (x : Sample) : Option Nat :=
  if x.gaugeValid ∧ 0 ≤ x.level ∧ x.level ≤ 1500 then some x.level.toNat else none

/-- The sample of a control period (R1). -/
def readSample (x : Sample) : Reading :=
  { level := validLevel x, measured := limitMeasured x.measured, ready := x.ready, breakout := x.breakout }

/-- The speed setpoint output of an internal speed (R2, R56). -/
def speedOut (v : Nat) : Nat := (v + 8) / 16

/-- A time in ms taken up to the next multiple of 10 ms (R137). -/
def roundUp10 (t : Nat) : Nat := (t + 9) / 10 * 10

/-- 10 ms less on a running timer; one that has none left waits for its expiry. -/
def tenLess (t : Option Nat) : Option Nat := t.map (· - 10)

/-- A bus voltage reading above 1500 is taken as 1500 (R128). -/
def limitVolts (v : Nat) : Nat := min v 1500

/-! ## Numbers on the line and their ranges -/

/-- The strand a number 1 to 6 names. -/
def strandOf (n : Nat) : Option Strand := if h : n - 1 < 6 ∧ n ≠ 0 then some ⟨n - 1, h.1⟩ else none

/-- The plan a number 1 to 12 names; 0 names none (R51). -/
def planOf (p : Nat) : Option PlanNo := if h : p - 1 < 12 ∧ p ≠ 0 then some ⟨p - 1, h.1⟩ else none

/-- A plan name character: printable, other than space, `>` and `*` (R38). -/
def nameChar (c : Nat) : Bool := within (33, 126) c && c ≠ 62 && c ≠ 42

/-- The header values lie in their ranges (R38). -/
def headerInRange (h : Header) : Bool :=
  within (200, 1400) h.fill && within (0, 600) h.dwell && within (1, 16) h.count
    && h.name.length ≤ 12 && h.name.all nameChar

/-- A slot target lies in its range (R38). -/
def targetInRange : Target → Bool
  | .speed v => within (0, 7000) v
  | .resume => true

/-- A slot step lies in its range (R38). -/
def stepInRange : StepMode → Bool
  | .auto => true
  | .override o => within (1, 200) o

/-- The slot values lie in their ranges (R38). -/
def slotInRange (x : Slot) : Bool :=
  targetInRange x.target && within (1, 6000) x.duration && within (200, 1400) x.level && stepInRange x.step

/-- A strand number 1 to 6 on the line. -/
def strandInRange (n : Nat) : Bool := within (1, 6) n

/-- A plan number 1 to 12 on the line. -/
def planInRange (p : Nat) : Bool := within (1, 12) p

/-- An optional plan argument lies in its range. -/
def planArgInRange : Option Nat → Bool
  | some p => planInRange p
  | none => true

/-- A log selection lies in its range. -/
def logSelInRange : LogSel → Bool
  | .strand n => strandInRange n
  | .plant => true

/-- A plan selection lies in its range. -/
def planSelInRange : PlanSel → Bool
  | .plan p => planInRange p
  | .fallback => true

/-- Test 4 of R179 with tests 2 and 3 of R41. -/
def requestInRange : Request → Bool
  | .getStrand n | .hld n | .stp n | .rel n => strandInRange n
  | .getLog l | .ack l => logSelInRange l
  | .getPlan p => planSelInRange p
  | .getSlot p s => planSelInRange p && within (1, 16) s
  | .plnHeader p h => planInRange p && headerInRange h
  | .plnSlots p s gs =>
    planInRange p && within (1, 16) s && gs.all slotInRange && s + gs.length ≤ 17
  | .plnClr p | .chk p => planInRange p
  | .beg n p | .res n p => strandInRange n && planArgInRange p
  | .sta | .getIdent | .getCfg _ | .getPermit | .getStore | .getCause | .getLineerr | .getTime | .put _
  | .hldAll _ | .stpAll _ | .sav | .rst => true

/-- The interface's refusal of a request (R179), for the tests that a request already read can still fail:
an empty PUT or slot write (test 2), GET CFG of a key that does not exist (test 3), and ranges (test 4). -/
def interfaceRefusal (r : Request) : Option Reply :=
  match r with
  | .put [] => some (noFor "SYNTAX" [])
  | .plnSlots _ _ [] => some (noFor "SYNTAX" [])
  | .getCfg k => if keyExists k then none else some (noFor "UNKNOWN" [])
  | r => if requestInRange r then none else some (noFor "RANGE" [])

/-- HLD ALL and STP ALL sent to the broadcast address get no reply (R34, R36, R178). -/
def isBroadcast : Request → Bool
  | .hldAll b | .stpAll b => b
  | _ => false

/-! ## The fields of a referenced plan (R50, R53) -/

/-- The header of a stored plan. -/
def headerOf (s : State) (p : PlanNo) : Header := s.plans[p].header.getD (Config.absentHeader p)

/-- The slot at position `i` of a stored plan, positions counted from 1. -/
def slotOf (s : State) (p : PlanNo) (i : Nat) : Slot :=
  match s.plans[p].slots[i - 1]? with
  | some (some x) => x
  | _ => Config.absentSlot p i

/-- LNORM in force at a strand (R84). -/
def lnormOf (s : State) (n : Strand) : Nat := s.strands[n].force.lnorm

/-- The fill level strand `n` reads from a plan; plan F gives its LNORM (R53). -/
def planFill (s : State) (n : Strand) : PlanRef → Nat
  | .plan p _ => (headerOf s p).fill
  | .fallback => lnormOf s n

/-- The dwell of a plan; plan F has 0 (R53). -/
def planDwell (s : State) : PlanRef → Nat
  | .plan p _ => (headerOf s p).dwell
  | .fallback => 0

/-- The slot count of a plan; plan F has 1 (R53). -/
def planCount (s : State) : PlanRef → Nat
  | .plan p _ => (headerOf s p).count
  | .fallback => 1

/-- The slot strand `n` reads at position `i` of a plan; plan F has RESUME in 30 s at LNORM, AUTO (R53). -/
def planSlot (s : State) (n : Strand) (r : PlanRef) (i : Nat) : Slot :=
  match r with
  | .plan p _ => slotOf s p i
  | .fallback => { target := .resume, duration := 300, level := lnormOf s n, step := .auto }

/-- The plan reference of a strand. Every state that reads its plan holds one (R4); a context without one
reads plan F here. -/
def refOf (s : State) (n : Strand) : PlanRef := s.strands[n].ctx.plan.getD .fallback

end Sys2Proof.Machine
end

