-- ==== Sys2Proof/Machine/Flags.lean ====
section
/-! DEFINITION. The flags and sets the commands compute: the active-condition set (R153), the logs' First
record and Next set (R155), the ALARM line (R159), and the reset-cause flags (R174). -/

namespace Sys2Proof.Machine

open Sys2Proof

/-! ## Active-condition set -/

/-- The kind of a condition (R153). -/
def condKind : Cond → Kind
  | .breakout => .breakout
  | .levelHigh => .levelHigh
  | .levelLow => .levelLow
  | .gaugeFault => .gaugeFault
  | .interlockLost => .interlockLost
  | .driveLag => .driveLag

/-- The conditions in ascending kind number. -/
def allConds : List Cond := [.breakout, .levelHigh, .levelLow, .gaugeFault, .interlockLost, .driveLag]

/-- Membership of a condition. -/
def isActive (a : ActiveSet) : Cond → Bool
  | .breakout => a.breakout
  | .levelHigh => a.levelHigh
  | .levelLow => a.levelLow
  | .gaugeFault => a.gaugeFault
  | .interlockLost => a.interlockLost
  | .driveLag => a.driveLag

/-- The set with one condition put in or taken out. -/
def setActive (a : ActiveSet) (b : Bool) : Cond → ActiveSet
  | .breakout => { a with breakout := b }
  | .levelHigh => { a with levelHigh := b }
  | .levelLow => { a with levelLow := b }
  | .gaugeFault => { a with gaugeFault := b }
  | .interlockLost => { a with interlockLost := b }
  | .driveLag => { a with driveLag := b }

/-! ## Logs -/

/-- A kind with its alarm mark entered into a Next set kept in ascending kind number: a new kind takes the
mark, a kind already there keeps a mark that either has (R155). -/
def nextInsert (k : Kind) (m : Bool) : List NextEntry → List NextEntry
  | [] => [⟨k, m⟩]
  | e :: es =>
    if kindNumber k < kindNumber e.kind then ⟨k, m⟩ :: e :: es
    else if k = e.kind then ⟨k, e.mark || m⟩ :: es
    else e :: nextInsert k m es

/-- A record entered into a log (R155). -/
def logRecord {ρ : Type} (l : Log ρ) (r : ρ) (k : Kind) (m : Bool) : Log ρ :=
  match l.first with
  | none => { l with first := some r }
  | some _ => { l with next := nextInsert k m l.next }

/-- A log holds an alarm mark, on its First record or on a Next entry (R159). -/
def logMarked {ρ : Type} (mark : ρ → Bool) (l : Log ρ) : Bool :=
  l.first.any mark || l.next.any NextEntry.mark

/-- Some log holds an alarm mark (R159). -/
def anyMark (s : State) : Bool :=
  allStrands.any (fun n => logMarked StrandRec.mark s.strands[n].log) || logMarked PlantRec.mark s.plantLog

/-- ALARM driven as the logs now require (R159). -/
def driveAlarm (s : State) : State := { s with alarm := anyMark s }

/-! ## Reset-cause flags -/

/-- All four flags clear. -/
def flagsClear : Flags := ⟨false, false, false, false⟩

/-- The set flags by name, in the order of R174. -/
def flagWords (f : Flags) : List Text :=
  (if f.powerOn then [word "POWER_ON"] else []) ++ (if f.powerReturn then [word "POWER_RETURN"] else [])
    ++ (if f.lineReset then [word "LINE_RESET"] else [])
    ++ (if f.storeInvalid then [word "STORE_INVALID"] else [])

/-! ## Line error counter -/

/-- One occurrence of faulty input: the counter rises by 1, up to 255 (R177). -/
def countFaulty (l : Line) : Line := { l with errors := min (l.errors + 1) 255 }

end Sys2Proof.Machine
end

