-- ==== Sys2Proof/Machine/Ops.lean ====
section
/-! DEFINITION. The shared operations of the blocks: reading and changing one strand, records and actions,
the messages between strand and arbiter, the entries into the strand states, and the choice of a plan. -/

namespace Sys2Proof.Machine

open Sys2Proof

/-! ## One strand of the state -/

/-- The context of a strand. -/
def ctxOf (s : State) (n : Strand) : Ctx := s.strands[n].ctx

/-- The block of strand `n` changed by `f`. -/
def mapBlock (n : Strand) (f : Block → Block) (s : State) : State :=
  { s with strands := s.strands.set n (f s.strands[n]) }

/-- The context of strand `n` changed by `f`. -/
def mapCtx (n : Strand) (f : Ctx → Ctx) (s : State) : State :=
  mapBlock n (fun b => { b with ctx := f b.ctx }) s

/-- An event that reaches all six strands, in ascending strand number. -/
def forEach (f : Strand → State → State) (s : State) : State :=
  allStrands.foldl (fun t n => f n t) s

/-- The part takes events only while it is running (R6, R95, R110, R127, R154, R169, R170). -/
def whenRunning (f : State → State) (s : State) : State :=
  if s.phase = .running then f s else s

/-! ## Records -/

/-- The measured speed and level a record of strand `n` carries: those of the control period it is made in,
or of the strand's latest one (R156). -/
def observed (s : State) (n : Strand) : Nat × Option Nat :=
  match s.strands[n].sampled with
  | some x => x
  | none =>
    ((Config.unsampledSpeed n s.store.time).val, (Config.unsampledLevel n s.store.time).map (·.val))

/-- A strand record as the context and the steering table stand (R147, R156). -/
def strandRecord (s : State) (n : Strand) (k : Kind) (seen : Nat × Option Nat) : StrandRec :=
  let c := ctxOf s n
  { kind := k
    time := s.store.time
    state := c.state
    restart := c.kind
    plan := c.plan
    slot := c.slot.map SlotRun.index
    speedOut := speedOut c.speed
    measured := seen.1
    level := seen.2
    stopper := c.stopper
    mark := alarmOf s.cfg k }

/-- A record entered into strand `n`'s log; its alarm mark asserts ALARM (R155, R159). -/
def putRecord (n : Strand) (r : StrandRec) (s : State) : State :=
  let t := mapBlock n (fun b => { b with log := logRecord b.log r r.kind r.mark }) s
  { t with alarm := t.alarm || r.mark }

/-- A deviation recorded at a strand. -/
def raise (n : Strand) (k : Kind) (s : State) : State :=
  putRecord n (strandRecord s n k (observed s n)) s

/-- A deviation recorded in the plant log (R157). -/
def raisePlant (k : Kind) (affected : List Strand) (s : State) : State :=
  let r : PlantRec :=
    { kind := k
      time := s.store.time
      monitor := s.mon.state
      change := s.coord.state
      volts := s.mon.sample
      mark := alarmOf s.cfg k
      affected := affected }
  { s with plantLog := logRecord s.plantLog r k r.mark, alarm := s.alarm || r.mark }

/-! ## Messages to the Permit Arbiter (R10) -/

/-- The class of a restart kind: 1 for TUNDISH and DIP, 2 for START (R96). -/
def classOf (k : Option RestartKind) : Nat := if k = some .tundish ∨ k = some .dip then 1 else 2

/-- An entry placed in the queue: class 1 after the last class 1 entry, class 2 at the end (R96). -/
def place (e : QEntry) (q : List QEntry) : List QEntry :=
  if e.cls = 1 then q.takeWhile (·.cls == 1) ++ e :: q.dropWhile (·.cls == 1) else q ++ [e]

/-- Enqueue, with the class of the restart kind held now and the time counter (R96). -/
def enqueue (n : Strand) (s : State) : State :=
  let e : QEntry := { strand := n, cls := classOf (ctxOf s n).kind, time := s.store.time }
  { s with arb := { s.arb with queue := place e s.arb.queue } }

/-- Dequeue: the strand's entry leaves the queue; without one the queue stays (R98). -/
def dequeue (n : Strand) (s : State) : State :=
  { s with arb := { s.arb with queue := s.arb.queue.filter (·.strand != n) } }

/-- Release: the strand leaves the holders set and its permit held becomes no (R99). -/
def release (n : Strand) (s : State) : State :=
  mapCtx n (fun c => { c with permit := false })
    { s with arb := { s.arb with holders := s.arb.holders.filter (· != n) } }

/-- The dequeue and release a strand sends when it leaves its state for `next` (R10, R98, R99). -/
def leaveFor (n : Strand) (next : StrandState) (s : State) : State :=
  let c := ctxOf s n
  if c.state = .waitPermit ∧ next ≠ .ramp then dequeue n s
  else if (c.state = .ramp ∧ next ≠ .held)
      ∨ (c.state = .held ∧ c.holdReturn = some .ramp ∧ next ≠ .ramp) then release n s
  else s

/-! ## Entries into the strand states -/

/-- What entry into TRIPPED does to the context (R29): every marker becomes no, floor reached among them (assumption log
33). -/
def toTripped (c : Ctx) : Ctx :=
  { c with
    state := .tripped, speed := 0, stopper := 0, mode := .off, integrator := 0
    kind := none, plan := none, slot := none, target := none
    holdReturn := none, freezeReturn := none, resume := none
    lag := 0, timeoutNoted := false, floorReached := false, rateNoted := false, limitNoted := false }

/-- Entry into TRIPPED, with the three outputs forced at once (R2, R29). -/
def enterTripped (n : Strand) (s : State) : State :=
  mapBlock n (fun b => { b with ctx := toTripped b.ctx, outSpeed := 0, outStopper := 0, outTrip := true })
    (leaveFor n .tripped s)

/-- What entry into IDLE does to the context (R11): every marker becomes no, floor reached among them (assumption log
33). -/
def toIdle (c : Ctx) : Ctx :=
  { c with
    state := .idle, stopper := 0, mode := .off, integrator := 0
    kind := none, plan := none, slot := none, target := none
    holdReturn := none, freezeReturn := none, resume := none, extremes := none
    lag := 0, timeoutNoted := false, floorReached := false, rateNoted := false, limitNoted := false }

/-- Entry into IDLE, with the stopper output forced (R2, R11). -/
def enterIdle (n : Strand) (s : State) : State :=
  mapBlock n (fun b => { b with ctx := toIdle b.ctx, outStopper := 0 }) s

/-- What entry into STOPPING does to the context (R27). Rate-clamp noted and limit noted keep their values (assumption log
32). -/
def toStopping (c : Ctx) : Ctx :=
  { c with
    state := .stopping, stopper := 0, mode := .off, integrator := 0
    kind := none, plan := none, slot := none, target := none
    holdReturn := none, freezeReturn := none, lag := 0 }

/-- Entry into STOPPING, with the stopper output forced (R2, R27). -/
def enterStopping (n : Strand) (s : State) : State :=
  mapBlock n (fun b => { b with ctx := toStopping b.ctx, outStopper := 0 }) (leaveFor n .stopping s)

/-- The resume speed taken from the setpoint when it is absent (R72). -/
def takeResume (c : Ctx) : Option Nat :=
  match c.resume with
  | some v => some v
  | none => some c.speed

/-- What becoming a party to a tundish change does to a context, whether the strand enters CHANGE (R23) or
is frozen (R115); the state and freeze_return are set by the caller. Rate-clamp noted and limit noted keep their values
(assumption log 32). -/
def joinChange (c : Ctx) : Ctx :=
  { c with
    resume := takeResume c, stopper := 0, mode := .off, integrator := 0
    kind := none, plan := none, holdReturn := none, slot := none, target := none
    floorReached := false }

/-- Entry into CHANGE, with the stopper output forced (R2, R23). -/
def enterChange (n : Strand) (s : State) : State :=
  mapBlock n (fun b => { b with ctx := { joinChange b.ctx with state := .change, lag := 0 }, outStopper := 0 })
    (leaveFor n .change s)

/-- The freeze_return of the state left, for the seven states a freeze takes (R25). -/
def freezeReturnOf : StrandState → Option FreezeReturn
  | .fill => some .fill
  | .dwell => some .dwell
  | .waitPermit => some .waitPermit
  | .ramp => some .ramp
  | .cast => some .cast
  | .held => some .held
  | .change => some .change
  | .idle | .frozen | .stopping | .tripped => none

/-- A freeze sets the resume speed from RAMP, CAST and HELD (R25, R72). -/
def freezeResume (c : Ctx) : Option Nat :=
  if c.state = .ramp ∨ c.state = .cast ∨ c.state = .held then takeResume c else c.resume

/-- Entry into FROZEN (R25); a strand in IDLE, FROZEN, STOPPING or TRIPPED is not touched. -/
def freezeStrand (n : Strand) (s : State) : State :=
  match freezeReturnOf (ctxOf s n).state with
  | some f =>
    mapCtx n (fun c => { c with state := .frozen, freezeReturn := some f, resume := freezeResume c, lag := 0 })
      (leaveFor n .frozen s)
  | none => s

/-- The hold_return of the state left, for the four states that may be held (R21). -/
def holdReturnOf : StrandState → Option HoldReturn
  | .fill => some .fill
  | .dwell => some .dwell
  | .waitPermit => some .waitPermit
  | .ramp => some .ramp
  | .idle | .cast | .held | .change | .frozen | .stopping | .tripped => none

/-- Entry into HELD by HLD or a HOLD action, where the state allows it (R21, R34, R148). -/
def holdStrand (n : Strand) (s : State) : State :=
  match holdReturnOf (ctxOf s n).state with
  | some h =>
    mapCtx n (fun c => { c with state := .held, holdReturn := some h, lag := 0 }) (leaveFor n .held s)
  | none => s

/-- Entry into WAIT_PERMIT from FILL or DWELL: a new wait at the level of slot 1, enqueued (R16). -/
def enterWait (n : Strand) (s : State) : State :=
  enqueue n (mapCtx n (fun c =>
    { c with
      state := .waitPermit, timer := 0, timeoutNoted := false
      levelTarget := (planSlot s n (refOf s n) 1).level }) s)

/-- Entry into CAST at the end of the last slot (R19). -/
def enterCast (n : Strand) (s : State) : State :=
  let r := refOf s n
  mapCtx n (fun c =>
    { c with
      state := .cast, kind := none, plan := none, resume := none, slot := none
      levelTarget := (planSlot s n r (planCount s r)).level
      rateNoted := false, limitNoted := false })
    (leaveFor n .cast s)

/-! ## Actions (R148) -/

/-- STOP takes a strand in CHANGE, or FROZEN with freeze_return CHANGE, into STOPPING (R148). -/
def stopsAtOverrun (c : Ctx) : Bool :=
  c.state = .change || (c.state = .frozen && c.freezeReturn = some .change)

/-- An action applied to the state the strand is in (R148). -/
def applyAction (n : Strand) (a : Action) (s : State) : State :=
  match a with
  | .trip =>
    if (ctxOf s n).state = .idle ∨ (ctxOf s n).state = .tripped then s else enterTripped n s
  | .hold => holdStrand n s
  | .stop => if stopsAtOverrun (ctxOf s n) then enterStopping n s else s
  | .note => s

/-- Actions applied one after another. -/
def applyActions (n : Strand) (as : List Action) (s : State) : State :=
  as.foldl (fun t a => applyAction n a t) s

/-! ## Choosing a plan and beginning a restart -/

/-- A plan is usable for a restart kind when it is VALID and of that kind (R51). -/
def usable (s : State) (p : PlanNo) (k : RestartKind) : Bool :=
  s.plans[p].state = .valid && s.plans[p].header.map Header.kind = some k

/-- The reference to a usable plan at its current revision (R51). -/
def usableRef (s : State) (number : Nat) (k : RestartKind) : Option PlanRef :=
  (planOf number).bind fun p => if usable s p k then some (.plan p s.plans[p].rev) else none

/-- The number of strands that reference plan `p` (R48). -/
def refCount (s : State) (p : PlanNo) : Nat :=
  allStrands.countP fun n =>
    match s.strands[n].ctx.plan with
    | some (.plan q _) => q == p
    | _ => false

/-- The context changes of a restart begin (R12). -/
def restartCtx (k : RestartKind) (r : PlanRef) (c : Ctx) : Ctx :=
  { c with kind := some k, plan := some r, extremes := none, timer := 0, timeoutNoted := false }

/-- NO_PLAN is recorded when plan F is chosen (R52). -/
def noteNoPlan (n : Strand) (r : PlanRef) (s : State) : State :=
  if r = .fallback then raise n .noPlan s else s

/-- The loop of a block goes from OFF to CLOSED toward level target `lt` (R79): the integrator from 0, and no valid
sample taken in CLOSED yet (R92). -/
def openLoop (lt : Nat) (b : Block) : Block :=
  { b with refilled := 0, ctx := { b.ctx with mode := .closed, integrator := 0, levelTarget := lt } }

/-- The TUNDISH restart new tundish seated begins at a strand in CHANGE, or FROZEN with freeze_return
CHANGE: plan DEFT.n or plan F, the loop closed from 0 toward the fill level (R118, R119, R79). -/
def beginTundish (n : Strand) (s : State) : State :=
  let r := (usableRef s s.cfg.strands[n].deft .tundish).getD .fallback
  noteNoPlan n r (mapBlock n (openLoop (planFill s n r)) (mapCtx n (fun c =>
    { restartCtx .tundish r c with
      state := if c.state = .change then .fill else c.state
      freezeReturn := if c.state = .change then c.freezeReturn else some .fill }) s))

/-- The DIP restart recovery begins: plan DEFD.n or plan F, the level of its slot 1 (R140). The state has
already been set, so that NO_PLAN carries it (R52). -/
def beginDip (n : Strand) (s : State) : State :=
  let r := (usableRef s s.cfg.strands[n].defd .dip).getD .fallback
  noteNoPlan n r (mapCtx n (fun c =>
    { restartCtx .dip r c with levelTarget := (planSlot s n r 1).level }) s)

end Sys2Proof.Machine
end

