-- ==== Sys2Proof/Machine/Ramp.lean ====
section
/-! DEFINITION. The Ramp Generator (chapter 3): the common steps of every speed computation, slot start, the
ramp step and slot end, and the speed stage of each strand state. -/

namespace Sys2Proof.Machine

open Sys2Proof

/-- C, the speed cap in force (R55). -/
def capOf (s : State) (n : Strand) : Nat := s.strands[n].force.vmax * 16

/-- A, the acceleration limit in force (R55). -/
def accelOf (s : State) (n : Strand) : Nat := s.strands[n].force.amax * 16

/-- A setpoint after the common steps, and whether the cap and the rate limit acted (R57, R63). -/
structure Limited where
  speed   : Nat
  capped  : Bool
  clamped : Bool
  deriving DecidableEq, Repr

/-- The candidate capped (R57, step 1). -/
def capStep (cap : Nat) (x : Int) : Int := if x > cap then cap else x

/-- The candidate held to a step of `accel` from the previous setpoint (R57, step 2). -/
def rateStep (accel prev : Nat) (x : Int) : Int :=
  if x - prev > accel then prev + accel else if prev - x > accel then prev - accel else x

/-- The common steps: cap, rate limit, floor (R57). -/
def commonSteps (cap accel prev : Nat) (x : Int) : Limited :=
  let y := capStep cap x
  let z := rateStep accel prev y
  { speed := z.toNat, capped := x > cap, clamped := z ≠ y }

/-- The AUTO candidate: the point on the line from S0 to ST at period `k` of `n`, truncated toward zero (R61). -/
def autoCandidate (s0 st k n : Nat) : Int := s0 + Int.tdiv (((st : Int) - s0) * k) n

/-- The candidate of an override step: P moved toward ST by at most O × 16 (R62). -/
def overrideCandidate (prev st o : Nat) : Int :=
  if prev < st then prev + min (st - prev) (o * 16)
  else if st < prev then prev - min (prev - st : Int) (o * 16)
  else prev

/-- The candidate of a RAMP period, with k already increased (R61, R62). -/
def rampCandidate (r : SlotRun) (st prev : Nat) : Int :=
  match r.step with
  | .auto => autoCandidate r.s0 st r.k r.n
  | .override o => overrideCandidate prev st o

/-- The uncapped internal target of a slot: RESUME takes the resume speed, or else the current setpoint (R58). -/
def resolveTarget (c : Ctx) : Target → Nat
  | .speed v => v * 16
  | .resume => c.resume.getD c.speed

/-- What the Ramp Generator leaves: the state, and the actions of the deviations it raised, in order. They
are applied when the stage or the grant has completed (R9, R60). -/
structure Ramped where
  st      : State
  actions : List Action
  deriving DecidableEq, Repr

/-- A ramp deviation recorded now, its action kept for the end of the stage (R9). -/
def rampDeviation (n : Strand) (k : Kind) (x : Ramped) : Ramped :=
  { st := raise n k x.st, actions := x.actions ++ [actionOf x.st.cfg k] }

/-- Slot `i` of the referenced plan starts: origin, capped target, length, step and markers (R58, R59), and
the level target (R82). A cap that lowers the target raises SPEED_LIMIT. -/
def startSlot (n : Strand) (i : Nat) (x : Ramped) : Ramped :=
  let s := x.st
  let slot := planSlot s n (refOf s n) i
  let raw := resolveTarget (ctxOf s n) slot.target
  let capped : Bool := raw > capOf s n
  let t := mapCtx n (fun c =>
    { c with
      slot := some { index := i, k := 0, s0 := c.speed, n := 2 * slot.duration, step := slot.step }
      target := some (min raw (capOf s n))
      levelTarget := slot.level
      rateNoted := false, limitNoted := capped }) s
  if capped then rampDeviation n .speedLimit { x with st := t } else { x with st := t }

/-- SPEED_LIMIT where the cap lowered the candidate and it is not yet noted (R63, R66). -/
def reportCap (n : Strand) (l : Limited) (x : Ramped) : Ramped :=
  if l.capped && !(ctxOf x.st n).limitNoted then
    rampDeviation n .speedLimit { x with st := mapCtx n (fun c => { c with limitNoted := true }) x.st }
  else x

/-- RATE_CLAMP where the rate limit changed the candidate and it is not yet noted (R63, R66). -/
def reportClamp (n : Strand) (l : Limited) (x : Ramped) : Ramped :=
  if l.clamped && !(ctxOf x.st n).rateNoted then
    rampDeviation n .rateClamp { x with st := mapCtx n (fun c => { c with rateNoted := true }) x.st }
  else x

/-- The end of a slot: RAMP_SHORT if the setpoint is not at the target, then the next slot or CAST (R64). -/
def endSlot (n : Strand) (r : SlotRun) (x : Ramped) : Ramped :=
  let c := ctxOf x.st n
  let y := if c.target = some c.speed then x else rampDeviation n .rampShort x
  if r.index < planCount y.st (refOf y.st n) then startSlot n (r.index + 1) y
  else { y with st := enterCast n y.st }

/-- The speed of strand `n` computed from a candidate by the common steps (R57). -/
def limitFor (s : State) (n : Strand) (x : Int) : Limited :=
  commonSteps (capOf s n) (accelOf s n) (ctxOf s n).speed x

/-- Stage 4 in RAMP (R61 to R64). A RAMP context always holds its slot and target (R4). -/
def rampStage (n : Strand) (s : State) : Ramped :=
  let c := ctxOf s n
  match c.slot, c.target with
  | some r, some st =>
    let r' := { r with k := r.k + 1 }
    let l := limitFor s n (rampCandidate r' st c.speed)
    let t := mapCtx n (fun c => { c with slot := some r', speed := l.speed }) s
    let x := reportClamp n l (reportCap n l { st := t, actions := [] })
    if r'.k = r'.n then endSlot n r' x else x
  | _, _ => { st := s, actions := [] }

/-- Stage 4 in CAST: toward the final target, with the two reports (R66). -/
def castStage (n : Strand) (s : State) : Ramped :=
  let c := ctxOf s n
  let l := limitFor s n (c.target.getD c.speed)
  let t := mapCtx n (fun c => { c with speed := l.speed }) s
  reportClamp n l (reportCap n l { st := t, actions := [] })

/-- Stage 4 toward a candidate without a record (R67 to R69). -/
def plainStage (n : Strand) (x : Int) (s : State) : State :=
  mapCtx n (fun c => { c with speed := (limitFor s n x).speed }) s

/-- The candidate in CHANGE: CREEP, or 0 once floor reached is yes (R68). -/
def changeCandidate (s : State) (n : Strand) : Int :=
  if (ctxOf s n).floorReached then 0 else (s.strands[n].force.creep * 16 : Nat)

/-- Stage 4: the Ramp Generator in each strand state (R61 to R71). -/
def speedStage (n : Strand) (s : State) : Ramped :=
  match (ctxOf s n).state with
  | .ramp => rampStage n s
  | .cast => castStage n s
  | .fill | .dwell | .waitPermit | .held =>
    { st := plainStage n ((ctxOf s n).speed : Nat) s, actions := [] }
  | .change => { st := plainStage n (changeCandidate s n) s, actions := [] }
  | .stopping => { st := plainStage n 0 s, actions := [] }
  | .frozen | .idle | .tripped => { st := s, actions := [] }

end Sys2Proof.Machine
end

