-- ==== Sys2Proof/Machine/Arbiter.lean ====
section
/-! DEFINITION. The Permit Arbiter (chapter 5): the grant and the grant evaluation, and the commands
GRANT_EVALUATION and SPACING_TIMER_EXPIRY. -/

namespace Sys2Proof.Machine

open Sys2Proof

/-- What a command answers. -/
abbrev Result := Host.Outcome State Fault Refusal

/-- The four conditions of a grant (R100). -/
def canGrant (s : State) : Bool :=
  s.mon.state = .normal && decide (s.arb.holders.length < s.cfg.plant.pmax) && s.arb.spacing.isNone
    && !s.arb.queue.isEmpty

/-- A strand put into the holders, kept in ascending strand number (R95, R109). -/
def addHolder (n : Strand) : List Strand → List Strand
  | [] => [n]
  | m :: ms => if n < m then n :: m :: ms else if n = m then m :: ms else m :: addHolder n ms

/-- The arbiter's part of a grant to `n`, the queue behind it being `rest` (R100, R102). -/
def arbiterGrant (n : Strand) (rest : List QEntry) (s : State) : State :=
  { s with
    arb :=
      { holders := addHolder n s.arb.holders
        queue := rest
        spacing := if s.cfg.plant.gap > 0 then some (s.cfg.plant.gap * 100) else s.arb.spacing } }

/-- The strand's part of a grant: RAMP with its permit, slot 1 started, then the action of a SPEED_LIMIT
(R17, R60). Only a strand in WAIT_PERMIT takes it. -/
def strandGrant (n : Strand) (s : State) : State :=
  if (ctxOf s n).state = .waitPermit then
    let t := mapCtx n (fun c => { c with state := .ramp, permit := true }) s
    let x := startSlot n 1 { st := t, actions := [] }
    applyActions n x.actions x.st
  else s

/-- A grant to the head of the queue (R100). -/
def grantHead (s : State) : State :=
  match s.arb.queue with
  | [] => s
  | e :: rest => strandGrant e.strand (arbiterGrant e.strand rest s)

/-- Grants one after another while all four conditions hold (R101), at most `fuel` of them. -/
def grantWhile : Nat → State → State
  | 0, s => s
  | fuel + 1, s => if canGrant s then grantWhile fuel (grantHead s) else s

/-- A grant evaluation (R101). Each grant takes one entry from the queue and none is added, so the length of
the queue bounds the number of grants. -/
def evaluateGrants (s : State) : State := grantWhile s.arb.queue.length s

/-- GRANT_EVALUATION: the evaluation an enqueue or a release calls for, taken after the event that sent it
(R101). -/
def execGrantEvaluation (s : State) : Result := .next (whenRunning evaluateGrants s)

/-- The spacing timer stops and a grant evaluation is made (R102); a stopped timer has no expiry. -/
def spacingExpires (s : State) : State :=
  if s.arb.spacing.isSome then evaluateGrants { s with arb := { s.arb with spacing := none } } else s

/-- SPACING_TIMER_EXPIRY (R102). -/
def execSpacingTimerExpiry (s : State) : Result := .next (whenRunning spacingExpires s)

end Sys2Proof.Machine
end

