-- ==== Sys2Proof/Machine/Change.lean ====
section
/-! DEFINITION. The Change Coordinator (chapter 6): the car lines, the change-begin and new-tundish-seated
notifications, the change window, and the commands CAR_LINE_SAMPLING and CHANGE_WINDOW_EXPIRY. -/

namespace Sys2Proof.Machine

open Sys2Proof

/-- A car line after one sample: its taken level, run count, and whether a rising edge was taken. -/
structure LineStep where
  taken  : Bool
  run    : Nat
  rising : Bool
  deriving DecidableEq, Repr

/-- One sample of one car line (R111): the third differing sample in a row is taken. A falling edge only
changes the taken level (R112). -/
def lineStep (sampled taken : Bool) (run : Nat) : LineStep :=
  if sampled = taken then { taken := taken, run := 0, rising := false }
  else if run + 1 < 3 then { taken := taken, run := run + 1, rising := false }
  else { taken := sampled, run := 0, rising := sampled }

/-- The change-begin rewrite of a FROZEN strand, its stopper output driven to 0 at once (R115). -/
def rewriteToChange (n : Strand) (s : State) : State :=
  mapBlock n (fun b =>
    { b with ctx := { joinChange b.ctx with freezeReturn := some .change }, outStopper := 0 }) s

/-- Change begin at a strand: into CHANGE from the six states of R23, a rewrite in FROZEN with another
freeze_return (R115), else nothing. -/
def changeBeginAt (n : Strand) (s : State) : State :=
  match (ctxOf s n).state with
  | .fill | .dwell | .waitPermit | .ramp | .cast | .held => enterChange n s
  | .frozen => if (ctxOf s n).freezeReturn = some .change then s else rewriteToChange n s
  | .idle | .change | .stopping | .tripped => s

/-- New tundish seated at a strand: a TUNDISH restart in CHANGE, or in FROZEN with freeze_return CHANGE
(R118, R119), else nothing. -/
def seatedAt (n : Strand) (s : State) : State :=
  if stopsAtOverrun (ctxOf s n) then beginTundish n s else s

/-- The rising edge of CHANGE_BEGIN (R113); ignored in CHANGING (R114). -/
def beginEdge (s : State) : State :=
  if s.coord.state = .noChange then
    forEach changeBeginAt
      { s with coord := { s.coord with state := .changing, window := some (s.cfg.plant.tchange * 1000) } }
  else s

/-- The rising edge of NEW_SEATED: it completes a change (R118), or records CAR_SEQUENCE in NO_CHANGE (R120). -/
def seatedEdge (s : State) : State :=
  if s.coord.state = .changing then
    forEach seatedAt { s with coord := { s.coord with state := .noChange, window := none } }
  else raisePlant .carSequence [] s

/-- An edge if it was taken. -/
def onEdge (taken : Bool) (edge : State → State) (s : State) : State := if taken then edge s else s

/-- The coordinator after one sample of both lines, the window 10 ms older (R111, R121). -/
def sampleLines (b w : LineStep) (s : State) : State :=
  { s with
    coord :=
      { s.coord with
        window := tenLess s.coord.window
        takenBegin := b.taken, runBegin := b.run
        takenSeated := w.taken, runSeated := w.run } }

/-- One sample of both car lines with its edges, each an event of its own in the order given (R111, R124). -/
def sampleCar (changeBegin newSeated seatedFirst : Bool) (s : State) : State :=
  let b := lineStep changeBegin s.coord.takenBegin s.coord.runBegin
  let w := lineStep newSeated s.coord.takenSeated s.coord.runSeated
  let t := sampleLines b w s
  if seatedFirst then onEdge b.rising beginEdge (onEdge w.rising seatedEdge t)
  else onEdge w.rising seatedEdge (onEdge b.rising beginEdge t)

/-- CAR_LINE_SAMPLING (R111). -/
def execCarLineSampling (changeBegin newSeated seatedFirst : Bool) (s : State) : Result :=
  .next (whenRunning (sampleCar changeBegin newSeated seatedFirst) s)

/-- Window expiry at a strand: CHANGE_OVERRUN recorded, then its action STOP (R122, R123). -/
def overrunAt (n : Strand) (s : State) : State :=
  if stopsAtOverrun (ctxOf s n) then
    applyAction n (actionOf s.cfg .changeOverrun) (raise n .changeOverrun s)
  else s

/-- The change is abandoned (R122); a stopped window has no expiry. -/
def windowExpires (s : State) : State :=
  if s.coord.window.isSome then
    forEach overrunAt { s with coord := { s.coord with state := .noChange, window := none } }
  else s

/-- CHANGE_WINDOW_EXPIRY (R122). -/
def execChangeWindowExpiry (s : State) : Result := .next (whenRunning windowExpires s)

end Sys2Proof.Machine
end

