-- ==== Sys2Proof/Machine/Level.lean ====
section
/-! DEFINITION. The Level Loop (chapter 4): the sample handling of a control period and the stopper
computation. -/

namespace Sys2Proof.Machine

open Sys2Proof

/-- A value clamped to a range (00_scope, "Limits"). -/
def clampInt (lo hi x : Int) : Int := if x < lo then lo else if x > hi then hi else x

/-- A valid sample appended to the level history, which keeps the last four (R76). -/
def pushHistory (h : List Nat) (l : Nat) : List Nat :=
  let g := h ++ [l]
  if g.length > 4 then g.drop (g.length - 4) else g

/-- Peak and valley after a valid sample (R77). -/
def stretch (l : Nat) : Option Extremes → Extremes
  | none => ⟨l, l⟩
  | some e => ⟨max e.peak l, min e.valley l⟩

/-- The context after a period's level sample (R75, R76, R77, R81). In IDLE the peak and valley stay absent. -/
def takeLevel (level : Option Nat) (c : Ctx) : Ctx :=
  match level with
  | some l =>
    { c with
      history := pushHistory c.history l
      extremes := if c.state = .idle then c.extremes else some (stretch l c.extremes)
      mode := if c.mode = .holdLast then .closed else c.mode }
  | none => { c with history := [], mode := if c.mode = .closed then .holdLast else c.mode }

/-- Whether the level target follows LNORM in force in this period: in IDLE (R82), and under plan F in FILL,
DWELL, WAIT_PERMIT and RAMP and in HELD whose hold_return is one of these, as every hold_return is (R83). -/
def followsNorm (c : Ctx) : Bool :=
  c.state = .idle
    || (c.plan = some .fallback
      && (c.state = .fill || c.state = .dwell || c.state = .waitPermit || c.state = .ramp
        || (c.state = .held && c.holdReturn.isSome)))

/-- A stopper setpoint and an integrator. -/
structure LoopOut where
  stopper    : Nat
  integrator : Int
  deriving DecidableEq, Repr

/-- The feedforward term for a speed in mm/min (R85). -/
def feedforward (kff v : Nat) : Int := Int.tdiv ((v : Int) * kff) 1024

/-- The stopper computation of a CLOSED period (R86): target `lt`, sample `l`, integrator `i`, speed `v`. -/
def loopCompute (g : StrandCfg) (v lt l : Nat) (i : Int) : LoopOut :=
  let e : Int := (lt : Int) - l
  let ff := feedforward g.kff v
  let prop := Int.tdiv ((g.kp : Int) * e) 64
  let ic := clampInt (-1000) 1000 (i + Int.tdiv ((g.ki : Int) * e) 256)
  let raw := ff + prop + ic
  let kept : Bool := (raw > g.umax && e > 0) || (raw < 0 && e < 0)
  let i' := if kept then i else ic
  { stopper := (clampInt 0 g.umax (ff + prop + i')).toNat, integrator := i' }

/-- The speed the feedforward takes: the measured speed in FROZEN, else the setpoint output (R85). -/
def loopSpeed (c : Ctx) (measured : Nat) : Nat := if c.state = .frozen then measured else speedOut c.speed

/-- Stage 6 on the context (R78, R86, R87). CLOSED holds a valid sample by R75. -/
def loopStep (g : StrandCfg) (r : Reading) (c : Ctx) : Ctx :=
  match c.mode, r.level with
  | .closed, some l =>
    let o := loopCompute g (loopSpeed c r.measured) c.levelTarget l c.integrator
    { c with stopper := o.stopper, integrator := o.integrator }
  | .off, _ => { c with stopper := 0, integrator := 0 }
  | _, _ => c

/-- Stage 6 of a control period. -/
def levelStage (n : Strand) (r : Reading) (s : State) : State :=
  mapCtx n (loopStep s.strands[n].force r) s

end Sys2Proof.Machine
end

