-- ==== Sys2Proof/Machine/ControlPeriod.lean ====
section
/-! DEFINITION. The control period of a strand (R8): its stages on one sample, and the command
CONTROL_PERIOD. -/

namespace Sys2Proof.Machine

open Sys2Proof

/-- A period under way: the state, and whether a TRIP action has cut the period short (R9). -/
structure Period where
  st  : State
  cut : Bool
  deriving DecidableEq, Repr

/-- The next stage or check, taken unless the period has been cut short (R9, R148). -/
def unlessCut (f : State → Period) (p : Period) : Period := if p.cut then p else f p.st

/-- A stage that raises nothing. -/
def quiet (f : State → State) (s : State) : Period := { st := f s, cut := false }

/-- A deviation recorded and its action applied at once; TRIP ends the period (R9, R148). -/
def deviate (n : Strand) (k : Kind) (s : State) : Period :=
  { st := applyAction n (actionOf s.cfg k) (raise n k s), cut := actionOf s.cfg k = .trip }

/-! ## Opening and stage 2 -/

/-- What a condition check finds (R89, R153). -/
inductive Finding where
  | present | absent | unknown
  deriving DecidableEq, Repr

/-- Present or absent. -/
def found (b : Bool) : Finding := if b then .present else .absent

/-- Membership of a condition in a strand's active-condition set, changed. -/
def setCondition (n : Strand) (k : Cond) (b : Bool) (s : State) : State :=
  mapBlock n (fun x => { x with active := setActive x.active b k }) s

/-- A condition check (R153): recorded with its action at onset only; found absent, it leaves the set. A BREAKOUT that
no period in TRIPPED or IDLE has taken out of the set BEG takes out (R33, R150; `activeAtBegin`, assumption log 30). -/
def checkCond (n : Strand) (k : Cond) (f : Finding) (s : State) : Period :=
  match f with
  | .present =>
    if isActive s.strands[n].active k then { st := s, cut := false }
    else
      { st := applyAction n (actionOf s.cfg (condKind k)) (setCondition n k true (raise n (condKind k) s))
        cut := actionOf s.cfg (condKind k) = .trip }
  | .absent => { st := setCondition n k false s, cut := false }
  | .unknown => { st := s, cut := false }

/-- The count of valid samples taken in CLOSED since the loop left OFF, after one more sample (R92); a valid sample
leaves no loop in HOLD_LAST (R75). -/
def refillCount (level : Option Nat) (b : Block) : Nat :=
  if level.isSome ∧ b.ctx.mode ≠ .off then min (b.refilled + 1) 4 else b.refilled

/-- The opening of a period: the settings come into force (R55, R84), the sample is kept for records (R156),
the level target follows LNORM where it does (R82, R83), and the Level Loop takes the sample (R75). -/
def openPeriod (n : Strand) (r : Reading) (s : State) : State :=
  mapBlock n (fun b =>
    { b with
      force := s.cfg.strands[n]
      sampled := some (r.measured, r.level)
      refilled := refillCount r.level b
      ctx := takeLevel r.level
        (if followsNorm b.ctx then { b.ctx with levelTarget := s.cfg.strands[n].lnorm } else b.ctx) }) s

/-- The states of R149's "every state except IDLE and TRIPPED". -/
def isWatched : StrandState → Bool
  | .idle | .tripped => false
  | .fill | .dwell | .waitPermit | .ramp | .cast | .held | .change | .frozen | .stopping => true

/-- Check 1: BREAKOUT (R150). -/
def checkBreakout (n : Strand) (r : Reading) (s : State) : Period :=
  checkCond n .breakout (found (isWatched (ctxOf s n).state && r.breakout)) s

/-- The states in which INTERLOCK_LOST is checked (R151). -/
def isInterlocked : StrandState → Bool
  | .fill | .dwell | .waitPermit | .ramp | .cast | .held | .change => true
  | .idle | .frozen | .stopping | .tripped => false

/-- Check 2: INTERLOCK_LOST (R151). -/
def checkInterlock (n : Strand) (r : Reading) (s : State) : Period :=
  checkCond n .interlockLost (found (isInterlocked (ctxOf s n).state && !r.ready)) s

/-- Check 3: GAUGE_FAULT (R90). -/
def checkGauge (n : Strand) (r : Reading) (s : State) : Period :=
  checkCond n .gaugeFault (found (isWatched (ctxOf s n).state && r.level.isNone)) s

/-- A level condition: absent where the state is not checked, open on an invalid sample (R89). -/
def levelFinding (checked : Bool) (test : Nat → Bool) (level : Option Nat) : Finding :=
  if checked then
    match level with
    | some l => found (test l)
    | none => .unknown
  else .absent

/-- Check 4: LEVEL_HIGH (R91). -/
def checkLevelHigh (n : Strand) (r : Reading) (s : State) : Period :=
  checkCond n .levelHigh
    (levelFinding (isWatched (ctxOf s n).state) (fun l => s.strands[n].force.lhigh ≤ l) r.level) s

/-- The level has fallen by more than `drop` since the oldest of four prior samples (R92). -/
def suddenFall (prior : List Nat) (drop l : Nat) : Bool :=
  match prior with
  | [a, _, _, _] => l + drop < a
  | _ => false

/-- The prior history check 5 compares with: none until four valid samples in CLOSED have followed the loop's return from
OFF, so that the check can first find something in the fifth CLOSED period (R92). Its bullets, with R76 and R78, would
let samples taken in OFF count; assumption log 28 says why its sentence is followed. -/
def suspectHistory (b : Block) : List Nat := if b.refilled < 4 then [] else b.ctx.history

/-- Check 5: BREAKOUT_SUSPECT, an event kind, made while the loop is CLOSED (R92), against the prior history
`suspectHistory` gives (assumption log 28). -/
def checkSuspect (n : Strand) (r : Reading) (prior : List Nat) (s : State) : Period :=
  match r.level with
  | some l =>
    if (ctxOf s n).mode = .closed && suddenFall prior s.strands[n].force.drop l then
      deviate n .breakoutSuspect s
    else { st := s, cut := false }
  | none => { st := s, cut := false }

/-- RAMP or CAST, the states of LEVEL_LOW and DRIVE_LAG (R93, R152). -/
def isMoving : StrandState → Bool
  | .ramp | .cast => true
  | .idle | .fill | .dwell | .waitPermit | .held | .change | .frozen | .stopping | .tripped => false

/-- Check 6: LEVEL_LOW (R93). -/
def checkLevelLow (n : Strand) (r : Reading) (s : State) : Period :=
  checkCond n .levelLow
    (levelFinding (isMoving (ctxOf s n).state) (fun l => l < s.strands[n].force.llow) r.level) s

/-- The absolute difference of two speeds. -/
def speedGap (a b : Nat) : Nat := (a - b) + (b - a)

/-- A lag beyond tolerance: the output at the terminal when the period began against the measured speed (R152). -/
def lagging (s : State) (n : Strand) (r : Reading) : Bool :=
  isMoving (ctxOf s n).state && s.strands[n].force.lagtol < speedGap s.strands[n].outSpeed r.measured

/-- The lag count after one more lagging period; it does not rise above LAGT × 2 (R152). -/
def lagUp (limit lag : Nat) : Nat := if lag < limit then lag + 1 else lag

/-- Check 7: the lag count and DRIVE_LAG (R152). -/
def checkLag (n : Strand) (r : Reading) (s : State) : Period :=
  let limit := s.strands[n].force.lagt * 2
  let lag := if lagging s n r then lagUp limit (ctxOf s n).lag else 0
  checkCond n .driveLag (found (lagging s n r && limit ≤ lag)) (mapCtx n (fun c => { c with lag := lag }) s)

/-- Stage 2: the seven checks in the order of R149, each against the state it finds. -/
def checks (n : Strand) (r : Reading) (prior : List Nat) (s : State) : Period :=
  unlessCut (checkLag n r) <| unlessCut (checkLevelLow n r) <| unlessCut (checkSuspect n r prior) <|
    unlessCut (checkLevelHigh n r) <| unlessCut (checkGauge n r) <| unlessCut (checkInterlock n r) <|
      checkBreakout n r s

/-! ## Stage 3 -/

/-- The state timer advanced by one period. -/
def advanceTimer (n : Strand) (s : State) : State := mapCtx n (fun c => { c with timer := c.timer + 1 }) s

/-- FILL_TIMEOUT and PERMIT_WAIT: unless noted, the timer advances; at its limit the kind is raised once (R14,
R16, R108). -/
def timeoutTest (n : Strand) (k : Kind) (limit : Nat) (s : State) : Period :=
  if (ctxOf s n).timeoutNoted then { st := s, cut := false }
  else if limit ≤ (ctxOf s n).timer + 1 then
    let t := mapCtx n (fun c => { c with timeoutNoted := true }) (raise n k (advanceTimer n s))
    { st := applyAction n (actionOf s.cfg k) t, cut := actionOf s.cfg k = .trip }
  else { st := advanceTimer n s, cut := false }

/-- The fill test: a valid level at or above the fill level ends FILL (R13). -/
def isFilled (s : State) (n : Strand) (r : Reading) : Bool :=
  match r.level with
  | some l => planFill s n (refOf s n) ≤ l
  | none => false

/-- Entry into DWELL from FILL (R15). -/
def enterDwell (n : Strand) (s : State) : State := mapCtx n (fun c => { c with state := .dwell, timer := 0 }) s

/-- Stage 3 in FILL (R13, R14). -/
def fillStage (n : Strand) (r : Reading) (s : State) : Period :=
  if isFilled s n r then
    quiet (if planDwell s (refOf s n) > 0 then enterDwell n else enterWait n) s
  else timeoutTest n .fillTimeout (s.strands[n].force.fillt * 2) s

/-- Stage 3 in DWELL (R15). -/
def dwellStage (n : Strand) (s : State) : State :=
  let t := advanceTimer n s
  if planDwell s (refOf s n) * 2 ≤ (ctxOf t n).timer then enterWait n t else t

/-- The floor test of CHANGE (R117). -/
def floorTest (n : Strand) (r : Reading) (s : State) : State :=
  match r.level with
  | some l =>
    if l < s.strands[n].force.lfloor then mapCtx n (fun c => { c with floorReached := true }) s else s
  | none => s

/-- Stage 3: the timed phase of the state held when it begins (R8). -/
def timedStage (n : Strand) (r : Reading) (s : State) : Period :=
  match (ctxOf s n).state with
  | .fill => fillStage n r s
  | .dwell => quiet (dwellStage n) s
  | .waitPermit => timeoutTest n .permitWait (s.strands[n].force.pwait * 2) s
  | .change => quiet (floorTest n r) s
  | .idle | .ramp | .cast | .held | .frozen | .stopping | .tripped => { st := s, cut := false }

/-! ## Stages 4 to 7 -/

/-- Stage 4, with the actions of its deviations applied once it has completed (R9). -/
def rampAndActions (n : Strand) (s : State) : Period :=
  let x := speedStage n s
  { st := applyActions n x.actions x.st, cut := x.actions.contains .trip }

/-- Stage 5: a strand in STOPPING whose setpoint is 0 and whose drive turns below 10 mm/min enters IDLE (R28). -/
def stopTest (n : Strand) (r : Reading) (s : State) : State :=
  if (ctxOf s n).state = .stopping ∧ (ctxOf s n).speed = 0 ∧ r.measured < 10 then enterIdle n s else s

/-- Stage 7: the outputs driven from the context (R2, R32). -/
def driveOutputs (n : Strand) (s : State) : State :=
  mapBlock n (fun b =>
    { b with
      outSpeed := speedOut b.ctx.speed
      outStopper := b.ctx.stopper
      outTrip := decide (b.ctx.state = .tripped) }) s

/-- Stages 5 to 7. -/
def closePeriod (n : Strand) (r : Reading) (s : State) : State :=
  driveOutputs n (levelStage n r (stopTest n r s))

/-- One control period of strand `n` on a reading (R8). -/
def periodOn (n : Strand) (r : Reading) (s : State) : State :=
  (unlessCut (quiet (closePeriod n r)) <| unlessCut (rampAndActions n) <| unlessCut (timedStage n r) <|
    checks n r (suspectHistory s.strands[n]) (openPeriod n r s)).st

/-- CONTROL_PERIOD (R8). -/
def execControlPeriod (n : Strand) (sample : Sample) (s : State) : Result :=
  .next (whenRunning (periodOn n (readSample sample)) s)

end Sys2Proof.Machine
end

