-- ==== Sys2Proof/Machine/Requests.lean ====
section
/-! DEFINITION. The judgement of a request line (R176, R179): frame, check and address, then verb, form, item
or key, and ranges. It yields a request for its owner or the words of a refusal. -/

namespace Sys2Proof.Machine

open Sys2Proof

/-- What the content of a request line is judged to be. -/
inductive Judged where
  | request (r : Request)
  | refused (reply : Reply)
  deriving DecidableEq, Repr

/-- Test 2 of R179 failed. -/
def syntaxFailure : Judged := .refused (noFor "SYNTAX" [])

/-- A request read, or test 2 failed. -/
def readAs : Option Request → Judged
  | some r => .request r
  | none => syntaxFailure

/-- The arguments of a GET item (R182). An item that is none of those of R182 fails test 3; what form its arguments would
have the spec does not say, so that they are put to no test before (assumption log 13). -/
def readGet (item : Text) (args : List Text) : Judged :=
  let bare (r : Request) : Judged := if args.isEmpty then .request r else syntaxFailure
  if item = word "IDENT" then bare .getIdent
  else if item = word "STRAND" then
    match args with
    | [n] => readAs ((strandArg n).map .getStrand)
    | _ => syntaxFailure
  else if item = word "LOG" then
    match args with
    | [l] => readAs ((logSelArg l).map .getLog)
    | _ => syntaxFailure
  else if item = word "PLAN" then
    match args with
    | [p] => readAs ((planSelArg p).map .getPlan)
    | _ => syntaxFailure
  else if item = word "SLOT" then
    match args with
    | [p, i] =>
      match planSelArg p, numberArg i with
      | some p, some i => .request (.getSlot p i)
      | _, _ => syntaxFailure
    | _ => syntaxFailure
  else if item = word "CFG" then
    match args with
    | [k] =>
      match cfgKeyOf k with
      | some key => .request (.getCfg key)
      | none => .refused (noFor "UNKNOWN" [])
    | _ => syntaxFailure
  else if item = word "PERMIT" then bare .getPermit
  else if item = word "STORE" then bare .getStore
  else if item = word "CAUSE" then bare .getCause
  else if item = word "LINEERR" then bare .getLineerr
  else if item = word "TIME" then bare .getTime
  else .refused (noFor "UNKNOWN" [])

/-- One `key=value` pair split, its value read (R184); `none` is a syntax failure. The key ends at the first `=`; a second
one belongs to the value, which is then a word that no item takes (assumption log 13). -/
def splitPair (t : Text) : Option (Text × Value) :=
  match cutAtFirst 61 t with
  | some (k, v) => if k.isEmpty || v.isEmpty then none else (valueArg v).map fun w => (k, w)
  | none => none

/-- The keys of a PUT looked up in written order; the first unknown one is named (R184). -/
def lookUpKeys : List (Text × Value) → Except Text (List (CfgKey × Value))
  | [] => .ok []
  | (t, v) :: ps =>
    match putKeyOf t with
    | none => .error t
    | some k =>
      match lookUpKeys ps with
      | .ok qs => .ok ((k, v) :: qs)
      | .error e => .error e

/-- The pairs of a PUT (R184): form first (test 2), then the keys (test 3). -/
def readPut (args : List Text) : Judged :=
  if args.isEmpty then syntaxFailure
  else
    match args.mapM splitPair with
    | none => syntaxFailure
    | some pairs =>
      match lookUpKeys pairs with
      | .ok ps => .request (.put ps)
      | .error key => .refused (noFor "UNKNOWN" [key])

/-- A header write (R41, R42): four values and an optional name. A kind word the field does not allow is
refused with RANGE once the form has passed. -/
def readHeader (p : Nat) (kind fill dwell count : Text) (name : Text) : Judged :=
  match planValue fill, planValue dwell, planValue count with
  | some f, some d, some c =>
    match restartOf kind with
    | some k => .request (.plnHeader p { kind := k, fill := f, dwell := d, count := c, name := name })
    | none => .refused (noFor "RANGE" [])
  | _, _, _ => syntaxFailure

/-- The three forms of PLN (R41, test 1). A word other than `F` and `ALL` in the plan's place, and any word in the slot
position's place, fails test 2 of R179 (assumption log 13). -/
def readPln (args : List Text) : Judged :=
  match args with
  | p :: second :: rest =>
    match planArg p with
    | none => syntaxFailure
    | some p =>
      if second = word "H" then
        match rest with
        | [k, f, d, c] => readHeader p k f d c []
        | [k, f, d, c, name] => readHeader p k f d c name
        | _ => syntaxFailure
      else if second = word "CLR" then (if rest.isEmpty then .request (.plnClr p) else syntaxFailure)
      else
        match numberArg second, rest.mapM groupArg with
        | some i, some (g :: gs) => .request (.plnSlots p i (g :: gs))
        | _, _ => syntaxFailure
  | _ => syntaxFailure

/-- A strand number and an optional plan number (BEG, RES). -/
def readStrandPlan (mk : Nat → Option Nat → Request) (args : List Text) : Judged :=
  match args with
  | [n] => readAs ((strandArg n).map fun n => mk n none)
  | [n, p] =>
    match strandArg n, planArg p with
    | some n, some p => .request (mk n (some p))
    | _, _ => syntaxFailure
  | _ => syntaxFailure

/-- A strand number, or ALL (HLD, STP). -/
def readStrandOrAll (mk : Nat → Request) (all : Request) (args : List Text) : Judged :=
  match args with
  | [n] => if n = word "ALL" then .request all else readAs ((numberArg n).map mk)
  | _ => syntaxFailure

/-- A verb with its arguments (R179 tests 1 to 3, R181 to R185). -/
def readVerb (verb : Text) (args : List Text) : Judged :=
  let bare (r : Request) : Judged := if args.isEmpty then .request r else syntaxFailure
  if verb = word "STA" then bare .sta
  else if verb = word "GET" then
    match args with
    | item :: rest => readGet item rest
    | [] => syntaxFailure
  else if verb = word "PUT" then readPut args
  else if verb = word "PLN" then readPln args
  else if verb = word "CHK" then
    match args with
    | [p] => readAs ((planArg p).map .chk)
    | _ => syntaxFailure
  else if verb = word "BEG" then readStrandPlan .beg args
  else if verb = word "HLD" then readStrandOrAll .hld (.hldAll false) args
  else if verb = word "RES" then readStrandPlan .res args
  else if verb = word "STP" then readStrandOrAll .stp (.stpAll false) args
  else if verb = word "ACK" then
    match args with
    | [l] => readAs ((logSelArg l).map .ack)
    | _ => syntaxFailure
  else if verb = word "REL" then
    match args with
    | [n] => readAs ((strandArg n).map .rel)
    | _ => syntaxFailure
  else if verb = word "SAV" then bare .sav
  else if verb = word "RST" then bare .rst
  else .refused (noFor "UNKNOWN" [])

/-- The thirteen verbs (R181 to R185). -/
def verbs : List Text :=
  [word "STA", word "GET", word "PUT", word "PLN", word "CHK", word "BEG", word "HLD", word "RES",
   word "STP", word "ACK", word "REL", word "SAV", word "RST"]

/-- The content of a request line judged by the interface (R179): an empty argument comes from a doubled
space and fails test 2, after the verb has passed test 1. -/
def judgeContent (body : Text) : Judged :=
  match splitAtEvery 32 body with
  | [] => .refused (noFor "UNKNOWN" [])
  | verb :: args =>
    if verbs.contains verb && args.any List.isEmpty then syntaxFailure
    else
      match readVerb verb args with
      | .request r =>
        match interfaceRefusal r with
        | some reply => .refused reply
        | none => .request r
      | .refused reply => .refused reply

/-- A line whose frame and check are good: its address and its content (R176, step 1). -/
structure Framed where
  addr : Nat
  body : Text
  deriving DecidableEq, Repr

/-- The content before the space, `*`, two check digits and CR that end a line, with the check digits. -/
def cutTail (t : Text) : Option (Text × Text) :=
  match t.reverse with
  | 13 :: b :: a :: 42 :: 32 :: rest => if rest.isEmpty then none else some (rest.reverse, [a, b])
  | _ => none

/-- Step 1 of R176: the frame in its order, and the check over the first address digit up to the space before
`*`. -/
def frameOf (line : Text) : Option Framed :=
  match line with
  | 62 :: x :: y :: 32 :: rest =>
    if isDigit x && isDigit y then
      match cutTail rest with
      | some (body, check) =>
        if checkDigits (x :: y :: 32 :: body ++ [32]) = check then
          some { addr := 10 * (x - 48) + (y - 48), body := body }
        else none
      | none => none
    else none
  | _ => none

end Sys2Proof.Machine
end

