-- ==== Sys2Proof/Machine/Line.lean ====
section
/-! DEFINITION. The Service Line Interface (chapter 10): characters and lines, the taking of a request by its
owner, replies, and the commands CHARACTER_RECEIVED and REQUEST_LINE. -/

namespace Sys2Proof.Machine

open Sys2Proof

/-! ## Replies -/

/-- A reply formed now and being sent: under the part's address and the line settings in force (R180). -/
def answer (r : Reply) (s : State) : State :=
  { s with line := { s.line with reply := some (replyLine s.line.addr r) } }

/-- The reply of a request that may have been broadcast, which gets none (R34, R36, R178). -/
def answerUnless (broadcast : Bool) (r : Reply) (s : State) : State := if broadcast then s else answer r s

/-! ## Characters (R175) -/

/-- A character as the interface sees it: `none` cannot appear in a line. A parity error counts with PARITY at
EVEN only; a framing error always (R175; assumption log 14). -/
def receivedChar (parity : Parity) (code : Nat) (parityError framingError : Bool) : Option Nat :=
  if framingError || (parityError && parity = .even) then none else some code

/-- The receive state becomes ANSWERING: a request addressed to the part is complete (R178). -/
def beginAnswering (l : Line) : Line :=
  { l with recv := .answering, firstChar := true, spanCounted := false }

/-- A complete line judged (R176 to R179): faulty input, a line for another unit, a broadcast HLD ALL or STP
ALL, or a request that is refused at once or handed to its owner. -/
def judgeLine (line : Text) (s : State) : State :=
  let l := { s.line with buffer := line }
  match frameOf line with
  | none => { s with line := { countFaulty l with recv := .betweenLines } }
  | some f =>
    if f.addr = l.addr then
      match judgeContent f.body with
      | .refused r => answer r { s with line := beginAnswering l }
      | .request r => { s with line := { beginAnswering l with handed := l.handed ++ [r] } }
    else if f.addr = 0 ∧ f.body = word "HLD ALL" then
      { s with line := { l with recv := .betweenLines, handed := l.handed ++ [.hldAll true] } }
    else if f.addr = 0 ∧ f.body = word "STP ALL" then
      { s with line := { l with recv := .betweenLines, handed := l.handed ++ [.stpAll true] } }
    else { s with line := { l with recv := .betweenLines } }

/-- A character in BETWEEN LINES (R175). -/
def charBetween (c : Option Nat) (l : Line) : Line :=
  if c = some 62 then { l with recv := .inLine, buffer := [62] } else l

/-- A character other than CR in IN LINE (R175). -/
def charInLine (c : Option Nat) (l : Line) : Line :=
  match c with
  | none => { countFaulty l with recv := .betweenLines }
  | some x =>
    if x = 62 then { countFaulty l with buffer := [62] }
    else if within (32, 126) x && l.buffer.length < 95 then { l with buffer := l.buffer ++ [x] }
    else { countFaulty l with recv := .betweenLines }

/-- A character in ANSWERING: an LF directly after the CR is discarded; any other counts once for the whole
span (R175). -/
def charAnswering (c : Option Nat) (l : Line) : Line :=
  if l.firstChar && c = some 10 then { l with firstChar := false }
  else if l.spanCounted then { l with firstChar := false }
  else { countFaulty l with firstChar := false, spanCounted := true }

/-- A character handled by the receive state (R175). -/
def receive (c : Option Nat) (s : State) : State :=
  match s.line.recv with
  | .betweenLines => { s with line := charBetween c s.line }
  | .inLine =>
    if c = some 13 then judgeLine (s.line.buffer ++ [13]) s else { s with line := charInLine c s.line }
  | .answering => { s with line := charAnswering c s.line }

/-- CHARACTER_RECEIVED (R175); in SHUTDOWN every character is discarded (R169). -/
def execCharacterReceived (code : Nat) (parityError framingError : Bool) (s : State) : Result :=
  .next (whenRunning (fun t => receive (receivedChar t.line.parity code parityError framingError) t) s)

/-- REQUEST_LINE: the characters that complete a line arrive in order, the last of them its CR, and the line
is judged (R175, R176; assumption log 5). -/
def execRequestLine (chars : Text) (s : State) : Result :=
  .next (whenRunning (fun t => chars.foldl (fun u c => receive (some c) u) t) s)

/-! ## The taking of a request by its owner -/

/-- The line as a request is taken that was handed over before (R179). -/
def takeHanded (r : Request) (l : Line) : Line := { l with handed := l.handed.erase r }

/-- The line as a request is taken whose line arrives at this moment: a line under way before it is faulty
input (R175, R177), and a request addressed to the part begins its answer (R178). -/
def takeArriving (r : Request) (l : Line) : Line :=
  let k := if l.recv = .inLine then countFaulty l else l
  if isBroadcast r then { k with recv := .betweenLines } else beginAnswering k

/-- The line as request `r` is taken. -/
def lineTaking (r : Request) (l : Line) : Line :=
  if r ∈ l.handed then takeHanded r l else takeArriving r l

/-- A request can be taken: the interface has handed it over, or its line arrives while no other request is
being answered (R179: the part takes one request at a time from the line). A broadcast handed over leaves the state BETWEEN
LINES (R178), so that the request of a later line can stand in `handed` beside it; the rules give the two no order, and either
may be taken first (assumption log 4). -/
def mayTake (r : Request) (l : Line) : Bool := decide (r ∈ l.handed) || l.recv != .answering

/-- A request reaching its owner as an event (R7, R179). It is one the interface has handed over; or its line
arrives with it, which while ANSWERING makes its characters faulty input, counted once for the span (R175).
The interface's own tests come before the owner's (R179). A command without a hand-over is put to no test of the length of
its line, so that it may carry more groups or pairs than 96 characters hold (R43, R175, R184). Assumption log 4. -/
def serve (r : Request) (act : State → State) (s : State) : State :=
  if mayTake r s.line then
    match interfaceRefusal r with
    | some reply => answer reply { s with line := lineTaking r s.line }
    | none => act { s with line := lineTaking r s.line }
  else { s with line := charAnswering none s.line }

/-- A request taken while the part is running; in SHUTDOWN it is discarded (R169). -/
def request (r : Request) (act : State → State) (s : State) : Result := .next (whenRunning (serve r act) s)

/-- A request that only reads: its reply is formed from the state as it stands (R179). -/
def readOnly (r : State → Reply) (s : State) : State := answer (r s) s

end Sys2Proof.Machine
end

