-- ==== Sys2Proof/Machine/Plans.lean ====
section
/-! DEFINITION. The Plan Table's requests (chapter 2): PLN in its three forms and CHK. -/

namespace Sys2Proof.Machine

open Sys2Proof

/-- Plan `p` changed by `f`. -/
def mapPlan (p : PlanNo) (f : Plan → Plan) (s : State) : State :=
  { s with plans := s.plans.set p (f s.plans[p]) }

/-- The revision after one more accepted PLN; the revision after 65535 is 0 (R40). -/
def nextRevision (rev : Nat) : Nat := (rev + 1) % 65536

/-- Tests 4 and 5 of R41: the store is not SAVING, and no strand references the plan. -/
def planRefusal (s : State) (p : PlanNo) : Option Reply :=
  if s.store.saving then some (noFor "BUSY" [])
  else if refCount s p ≠ 0 then some (noFor "INUSE" [])
  else none

/-- A PLN at the Plan Table: refused, or applied whole and answered OK (R41). -/
def writePlan (p : Nat) (f : Plan → Plan) (s : State) : State :=
  match planOf p with
  | none => answer (noFor "RANGE" []) s
  | some p =>
    match planRefusal s p with
    | some reply => answer reply s
    | none => answer okPlain (mapPlan p f s)

/-- The plan after a header write (R42). -/
def withHeader (h : Header) (x : Plan) : Plan :=
  { x with state := .draft, rev := nextRevision x.rev, header := some h }

/-- PLN p H ... (R42). -/
def execPlnHeaderWrite (p : Nat) (h : Header) (s : State) : Result :=
  request (.plnHeader p h) (writePlan p (withHeader h)) s

/-- Groups stored at consecutive positions from `i`, counted from 0: the auto-advance (R43). -/
def storeSlots (v : Vector (Option Slot) 16) (i : Nat) : List Slot → Vector (Option Slot) 16
  | [] => v
  | g :: gs => storeSlots (v.setIfInBounds i (some g)) (i + 1) gs

/-- The plan after a slot write at position `i` (R43). -/
def withSlots (i : Nat) (gs : List Slot) (x : Plan) : Plan :=
  { x with state := .draft, rev := nextRevision x.rev, slots := storeSlots x.slots (i - 1) gs }

/-- PLN p s group ... (R43). -/
def execPlnSlotWrite (p i : Nat) (gs : List Slot) (s : State) : Result :=
  request (.plnSlots p i gs) (writePlan p (withSlots i gs)) s

/-- The plan after CLR; its revision is raised and kept (R44). -/
def cleared (x : Plan) : Plan :=
  { state := .empty, rev := nextRevision x.rev, header := none, slots := Vector.replicate 16 none }

/-- PLN p CLR (R44). -/
def execPlnClr (p : Nat) (s : State) : Result := request (.plnClr p) (writePlan p cleared) s

/-- The slot at position `i` of a plan record, positions counted from 1. -/
def slotAt (x : Plan) (i : Nat) : Option Slot := (x.slots[i - 1]?).getD none

/-- The positions 1 to N of a plan. -/
def positions (count : Nat) : List Nat := (List.range count).map (· + 1)

/-- The first failing item of the checks of R47; `none` when all pass. -/
def planFault (x : Plan) : Option (List Text) :=
  match x.header with
  | none => some [word "HEADER"]
  | some h =>
    match (positions h.count).find? fun i => (slotAt x i).isNone with
    | some i => some [word "SLOT", decimal i]
    | none =>
      if h.kind = .start then
        if (positions h.count).any fun i => (slotAt x i).map Slot.target = some .resume then
          some [word "RESUME"]
        else if (slotAt x 1).map Slot.target = some (.speed 0) then some [word "SLOT", decimal 1]
        else none
      else none

/-- CHK at the Plan Table (R46). -/
def checkPlan (p : Nat) (s : State) : State :=
  match planOf p with
  | none => answer (noFor "RANGE" []) s
  | some p =>
    if s.store.saving then answer (noFor "BUSY" []) s
    else
      match s.plans[p].state with
      | .empty => answer (noFor "STATE" []) s
      | .valid => answer okPlain s
      | .draft =>
        match planFault s.plans[p] with
        | some item => answer (noFor "PLAN" item) s
        | none => answer okPlain (mapPlan p (fun x => { x with state := .valid }) s)

/-- CHK p (R46). -/
def execChk (p : Nat) (s : State) : Result := request (.chk p) (checkPlan p) s

end Sys2Proof.Machine
end

