-- ==== Sys2Proof/Machine/Supply.lean ====
section
/-! DEFINITION. The Supply Monitor (chapter 7): samples, freeze, recovery and outage, and the commands
BUS_VOLTAGE_SAMPLING, SETTLE_TIMER_EXPIRY and RIDE_THROUGH_EXPIRY. -/

namespace Sys2Proof.Machine

open Sys2Proof

/-- The settle timer as it is started with the TSETTLE in force (R137). -/
def settleStart (s : State) : Option Nat := some (roundUp10 s.cfg.plant.tsettle)

/-- The low count after a sample (R128). -/
def lowCount (vdip v low : Nat) : Nat := if v < vdip then min (low + 1) 2 else 0

/-- The monitor after a sample has been read: latest sample, low count, and 10 ms off its timers, but for a settle timer
that a ride-through expiry has started at the moment of this very sample (R128, R137, assumption log 3). -/
def readVolts (v : Nat) (s : State) : State :=
  { s with
    mon :=
      { s.mon with
        sample := v
        low := lowCount s.cfg.plant.vdip v s.mon.low
        ride := tenLess s.mon.ride
        settle := if s.mon.settleAhead then s.mon.settle else tenLess s.mon.settle
        settleCut := s.mon.settleCut && s.mon.settleAhead
        settleAhead := false } }

/-- The settle timer started, or restarted with the earlier run's expiry cut off (R131, R132, R136, R137). -/
def startSettle (cut : Bool) (m : MonitorState) (s : State) : State :=
  { s with mon := { s.mon with state := m, settle := settleStart s, settleCut := cut } }

/-- The monitor in `m` with its settle timer stopped (R132, R133, R136). -/
def stopSettle (m : MonitorState) (s : State) : State :=
  { s with mon := { s.mon with state := m, settle := none, settleCut := false, settleAhead := false } }

/-- The fall from NORMAL into DIP: ride-through started, SUPPLY_DIP recorded, strands frozen (R129, R130). -/
def enterDip (s : State) : State :=
  forEach freezeStrand
    (raisePlant .supplyDip []
      { s with mon := { s.mon with state := .dip, ride := some (roundUp10 s.cfg.plant.tride) } })

/-- The sample handled as the monitor state requires (R129, R131, R132, R136). -/
def handleVolts (s : State) : State :=
  let sound : Bool := s.cfg.plant.vok ≤ s.mon.sample
  match s.mon.state with
  | .normal => if s.mon.low = 2 then enterDip s else s
  | .dip => if sound then startSettle false .settling s else s
  | .settling => if sound then s else if s.mon.low = 2 then stopSettle .dip s else startSettle true .settling s
  | .outage => if sound then s else startSettle true .outage s

/-- BUS_VOLTAGE_SAMPLING (R128). -/
def execBusVoltageSampling (volts : Nat) (s : State) : Result :=
  .next (whenRunning (fun t => handleVolts (readVolts (limitVolts volts) t)) s)

/-- Recovery leaves FROZEN for `next`: freeze_return and the slot fields are dropped (R4, R139). Rate-clamp noted and limit
noted keep their values (assumption log 32). -/
def thawTo (next : StrandState) (n : Strand) (s : State) : State :=
  mapCtx n (fun c => { c with state := next, freezeReturn := none, slot := none, target := none }) s

/-- The hold_return of a recovered strand (R4, R141). -/
def setHoldReturn (n : Strand) (h : Option HoldReturn) (s : State) : State :=
  mapCtx n (fun c => { c with holdReturn := h }) s

/-- Recovery of a strand whose freeze_return is HELD: a held ramp becomes a held DIP restart (R141). -/
def recoverHeld (n : Strand) (s : State) : State :=
  if (ctxOf s n).holdReturn = some .ramp then
    beginDip n (setHoldReturn n (some .waitPermit) (thawTo .held n s))
  else thawTo .held n s

/-- The state a recovered strand goes on in (R139, R140, R141). With freeze_return WAIT_PERMIT it resumes its wait (R16),
and its level target is kept: at a recovery R139 and R83 leave the target to R82, which keeps it here (assumption log
29). -/
def recoverInto (f : FreezeReturn) (n : Strand) (s : State) : State :=
  match f with
  | .fill => setHoldReturn n none (thawTo .fill n s)
  | .dwell => setHoldReturn n none (thawTo .dwell n s)
  | .waitPermit => enqueue n (setHoldReturn n none (thawTo .waitPermit n s))
  | .ramp | .cast => enqueue n (beginDip n (setHoldReturn n none (thawTo .waitPermit n s)))
  | .held => recoverHeld n s
  | .change => setHoldReturn n none (thawTo .change n s)

/-- The setpoint lowered to the measured speed and the output driven from it (R70, R139). -/
def lowerSpeed (measured : Nat) (n : Strand) (s : State) : State :=
  mapBlock n (fun b =>
    let v := min b.ctx.speed (limitMeasured measured * 16)
    { b with ctx := { b.ctx with speed := v }, outSpeed := speedOut v }) s

/-- Recovery at a strand (R139); a strand that is not FROZEN is not touched. -/
def recoverAt (measured : Vector Nat 6) (n : Strand) (s : State) : State :=
  match (ctxOf s n).state, (ctxOf s n).freezeReturn with
  | .frozen, some f => recoverInto f n (lowerSpeed measured[n] n s)
  | _, _ => s

/-- The settle timer expires: from SETTLING with the recoveries (R133), from OUTAGE without (R136); the grant
evaluation belongs to the event (R97). A stopped settle timer has no expiry (assumption log 21), and that of a timer
restarted at the same moment does not follow (R137). -/
def settleExpires (measured : Vector Nat 6) (s : State) : State :=
  if s.mon.settle.isSome ∧ s.mon.settleCut = false then
    match s.mon.state with
    | .settling =>
      evaluateGrants (forEach (recoverAt measured)
        (stopSettle .normal { s with mon := { s.mon with ride := none } }))
    | .outage => evaluateGrants (stopSettle .normal s)
    | .normal | .dip => s
  else s

/-- SETTLE_TIMER_EXPIRY (R133, R136). -/
def execSettleTimerExpiry (measured : Vector Nat 6) (s : State) : Result :=
  .next (whenRunning (settleExpires measured) s)

/-- Outage at a strand: a FROZEN strand records SUPPLY_LOST and enters TRIPPED (R134, R135). -/
def outageAt (n : Strand) (s : State) : State :=
  if (ctxOf s n).state = .frozen then
    applyAction n (actionOf s.cfg .supplyLost) (raise n .supplyLost s)
  else s

/-- The strands that are FROZEN, in ascending number (R135). -/
def frozenStrands (s : State) : List Strand := allStrands.filter fun n => (ctxOf s n).state = .frozen

/-- The monitor enters OUTAGE, its settle timer started or restarted (R134). A ride-through timer with time remaining has
expired ahead of the sample of its moment, which then takes nothing from the settle timer (R137, assumption log 3). -/
def enterOutage (s : State) : State :=
  { s with
    mon :=
      { s.mon with
        state := .outage
        ride := none
        settle := settleStart s
        settleCut := s.mon.settle.isSome
        settleAhead := s.mon.ride.any (0 < ·) } }

/-- The ride-through timer expires in DIP or SETTLING: OUTAGE (R134). A stopped timer has no expiry (assumption log 21). -/
def rideExpires (s : State) : State :=
  if s.mon.ride.isSome ∧ (s.mon.state = .dip ∨ s.mon.state = .settling) then
    raisePlant .supplyLost (frozenStrands s) (forEach outageAt (enterOutage s))
  else s

/-- RIDE_THROUGH_EXPIRY (R134). -/
def execRideThroughExpiry (s : State) : Result := .next (whenRunning rideExpires s)

end Sys2Proof.Machine
end

