-- ==== Sys2Proof/Machine/Power.lean ====
section
/-! DEFINITION. Control power and the starts (chapter 9), the end of a reply and the time counter: SHUTDOWN,
SNAPSHOT_COMPLETION, CONTROL_SUPPLY_FAILING_DEASSERT, CONTROL_POWER_LOSS, POWER_APPLICATION, START,
REPLY_SENT and TIME_COUNTER_TICK. -/

namespace Sys2Proof.Machine

open Sys2Proof

/-! ## Shutdown and power -/

/-- The outputs as in SHUTDOWN: speeds and stoppers 0, TRIP lines and ALARM asserted; the contexts keep their
fields (R6, R169, R170). -/
def forceOutputs (s : State) : State :=
  let t := forEach (fun n => mapBlock n (fun b => { b with outSpeed := 0, outStopper := 0, outTrip := true })) s
  { t with alarm := true }

/-- What the snapshot receives (R169). -/
def snapshotOf (s : State) : SnapData where
  ctxs := Vector.ofFn fun n => s.strands[n].ctx
  logs := Vector.ofFn fun n => s.strands[n].log
  plantLog := s.plantLog
  time := s.store.time
  flags := s.store.flags

/-- The line as SHUTDOWN leaves it: a reply being sent is cut off, what was handed over is not taken, and a
line reset waiting for its reply is abandoned (R169, R173). -/
def silenced (l : Line) : Line :=
  { l with recv := .betweenLines, handed := [], reply := none, resetArmed := false }

/-- Entry into SHUTDOWN: the save in flight abandoned with its marker cleared, the change window stopped, the
outputs forced, the write of the snapshot begun with its marker cleared first (R121, R168, R169). -/
def enterShutdown (s : State) : State :=
  let t := forceOutputs s
  { t with
    phase := .shutdown, failing := true
    line := silenced t.line
    coord := { t.coord with window := none }
    store :=
      { t.store with
        saving := false
        snapshot := { valid := false, writing := true, data := some (snapshotOf s) } } }

/-- CONTROL_SUPPLY_FAILING asserts: SHUTDOWN while running; outside it the count toward a start begins again
when the line next deasserts, and the snapshot is kept (R169, R170). -/
def supplyFails (s : State) : State :=
  match s.phase with
  | .running => enterShutdown s
  | .shutdown | .holding => { s with failing := true }
  | .unpowered => s

/-- SHUTDOWN (R169). -/
def execShutdown (s : State) : Result := .next (supplyFails s)

/-- The snapshot's marker is set last (R169). -/
def snapshotDone (s : State) : State :=
  if s.phase = .shutdown ∧ s.store.snapshot.writing then
    { s with
      store := { s.store with snapshot := { s.store.snapshot with valid := true, writing := false } } }
  else s

/-- SNAPSHOT_COMPLETION (R169). -/
def execSnapshotCompletion (s : State) : Result := .next (snapshotDone s)

/-- CONTROL_SUPPLY_FAILING deasserts: outside operation the count of 100 ms toward a start begins (R170). -/
def supplyRestored (s : State) : State := if s.phase = .unpowered then s else { s with failing := false }

/-- CONTROL_SUPPLY_FAILING_DEASSERT (R170). -/
def execControlSupplyFailingDeassert (s : State) : Result := .next (supplyRestored s)

/-- Control power is lost: all operation ends. A snapshot whose marker is not set stays invalid (R169, R170);
a save in flight has left the image's marker cleared (R167). -/
def losePower (s : State) : State :=
  { s with
    phase := .unpowered
    line := silenced s.line
    store := { s.store with saving := false, snapshot := { s.store.snapshot with writing := false } } }

/-- CONTROL_POWER_LOSS (R170). -/
def execControlPowerLoss (s : State) : Result := .next (losePower s)

/-- Control power is applied, whatever loss came before: the outputs as in SHUTDOWN until the start (R170). -/
def applyPower (failing : Bool) (s : State) : State :=
  { forceOutputs (losePower s) with phase := .holding, failing := failing }

/-- POWER_APPLICATION (R170). -/
def execPowerApplication (failing : Bool) (s : State) : Result := .next (applyPower failing s)

/-! ## Starts (R171) -/

/-- The three kinds of start. A power-return start brings the snapshot it restores. -/
inductive StartKind where
  | powerOn
  | powerReturn (d : SnapData)
  | lineReset
  deriving DecidableEq, Repr

/-- The data of a valid image. -/
def validImage (s : State) : Option ImageData := if s.store.image.valid then s.store.image.data else none

/-- Stage 1: plans and configuration from a valid image, else the factory defaults (R171). -/
def loadedData (s : State) : ImageData :=
  (validImage s).getD { plans := Vector.replicate 12 Plan.blank, cfg := Cfg.factory }

/-- Stage 2: the reset-cause flags (R174). -/
def startFlags (k : StartKind) (s : State) : Flags :=
  let f : Flags :=
    match k with
    | .powerOn => { flagsClear with powerOn := true }
    | .powerReturn d => { d.flags with powerReturn := true }
    | .lineReset => { s.store.flags with lineReset := true }
  if (validImage s).isNone then { f with storeInvalid := true } else f

/-- Stage 2: the time counter (R154). -/
def startTime : StartKind → Nat
  | .powerReturn d => d.time
  | .powerOn | .lineReset => 0

/-- Stage 2: a strand's log (R158). -/
def startLog (k : StartKind) (n : Strand) : Log StrandRec :=
  match k with
  | .powerReturn d => d.logs[n]
  | .powerOn | .lineReset => Log.empty

/-- Stage 2: the plant log (R158). -/
def startPlantLog : StartKind → Log PlantRec
  | .powerReturn d => d.plantLog
  | .powerOn | .lineReset => Log.empty

/-- Stage 4: a Strand Context before the trips of R172. A strand that was not IDLE takes the snapshot's
context with its level history emptied, its level target among the rest (assumption log 18); every other takes the power-on
values (R5, R76). -/
def startCtx (k : StartKind) (lnorm : Nat) (n : Strand) : Ctx :=
  match k with
  | .powerReturn d =>
    if d.ctxs[n].state = .idle then Ctx.powerOn lnorm else { d.ctxs[n] with history := [] }
  | .powerOn | .lineReset => Ctx.powerOn lnorm

/-- A strand after stages 2 to 5 of a start, before the trips of R172. -/
def startBlock (k : StartKind) (g : StrandCfg) (n : Strand) : Block where
  ctx := startCtx k g.lnorm n
  force := g
  sampled := none
  refilled := 0
  active := ActiveSet.empty
  log := startLog k n
  outSpeed := 0
  outStopper := 0
  outTrip := false

/-- Stage 3: the arbiter (R95). -/
def startArbiter : Arbiter := { holders := [], queue := [], spacing := none }

/-- Stage 3: the coordinator (R110). -/
def startCoordinator : Coordinator :=
  { state := .noChange, window := none, takenBegin := true, takenSeated := true, runBegin := 0, runSeated := 0 }

/-- Stage 3: the monitor in OUTAGE with its settle timer running and its start sample taken (R127). -/
def startMonitor (p : PlantCfg) (volts : Nat) : Monitor where
  state := .outage
  sample := limitVolts volts
  low := lowCount p.vdip (limitVolts volts) 0
  ride := none
  settle := some (roundUp10 p.tsettle)
  settleCut := false
  settleAhead := false

/-- Stage 3: the Service Line Interface, with the line settings loaded (R171). -/
def startLine (p : PlantCfg) : Line where
  recv := .betweenLines
  buffer := []
  errors := 0
  addr := p.addr
  baud := p.baud
  parity := p.parity
  handed := []
  reply := none
  firstChar := false
  spanCounted := false
  resetArmed := false

/-- The part after stages 1 to 4, before the trips of a power-return start. The commands that wait, the image
and the level of CONTROL_SUPPLY_FAILING are not touched. -/
def startBase (k : StartKind) (volts : Nat) (s : State) : State :=
  let d := loadedData s
  { s with
    strands := Vector.ofFn fun n => startBlock k d.cfg.strands[n] n
    plans := d.plans
    arb := startArbiter
    coord := startCoordinator
    mon := startMonitor d.cfg.plant volts
    plantLog := startPlantLog k
    cfg := d.cfg
    line := startLine d.cfg.plant
    phase := .running
    store :=
      { s.store with
        saving := false, lastOk := true
        flags := startFlags k s
        time := startTime k } }

/-- The values a CONTROL_POWER_LOST record carries: those presented at the terminal at the start (R156). -/
def presented (x : Sample) : Nat × Option Nat := (limitMeasured x.measured, validLevel x)

/-- A strand restored in a state other than IDLE records CONTROL_POWER_LOST and enters TRIPPED (R172). -/
def powerLostAt (terminals : Vector Sample 6) (n : Strand) (s : State) : State :=
  if (ctxOf s n).state = .idle then s
  else enterTripped n (putRecord n (strandRecord s n .controlPowerLost (presented terminals[n])) s)

/-- The strands that are not IDLE, in ascending number (R158). -/
def notIdleStrands (s : State) : List Strand := allStrands.filter fun n => (ctxOf s n).state ≠ .idle

/-- The trips and records of a power-return start (R158, R172); the snapshot's marker is then cleared. -/
def powerReturnTrips (terminals : Vector Sample 6) (s : State) : State :=
  let t := raisePlant .controlPowerLost (notIdleStrands s) (forEach (powerLostAt terminals) s)
  { t with store := { t.store with snapshot := { t.store.snapshot with valid := false } } }

/-- The kind of a start from SHUTDOWN or after an application of power, chosen by the snapshot (R170). -/
def startKind (s : State) : StartKind :=
  if s.store.snapshot.valid then
    match s.store.snapshot.data with
    | some d => .powerReturn d
    | none => .powerOn
  else .powerOn

/-- A write of the snapshot that a start finds unfinished has set no marker; it is given up. -/
def endSnapshotWrite (s : State) : State :=
  { s with store := { s.store with snapshot := { s.store.snapshot with writing := false } } }

/-- A power-on or power-return start (R170 to R172). -/
def powerStart (terminals : Vector Sample 6) (volts : Nat) (s : State) : State :=
  let t := startBase (startKind s) volts (endSnapshotWrite s)
  driveAlarm
    (match startKind s with
      | .powerReturn _ => powerReturnTrips terminals t
      | .powerOn | .lineReset => t)

/-- A start is due in SHUTDOWN, or after an application of power, while CONTROL_SUPPLY_FAILING is deasserted
(R170). -/
def startDue (s : State) : Bool := (s.phase = .shutdown || s.phase = .holding) && !s.failing

/-- START (R171): CONTROL_SUPPLY_FAILING has been deasserted for 100 ms. -/
def execStart (terminals : Vector Sample 6) (volts : Nat) (s : State) : Result :=
  .next (if startDue s then powerStart terminals volts s else s)

/-! ## The end of a reply, and time -/

/-- The line released after a reply: the settings of ADDR, BAUD and PARITY come into force (R164, R180). -/
def releaseLine (p : PlantCfg) (l : Line) : Line :=
  { l with
    recv := .betweenLines, reply := none
    addr := p.addr, baud := p.baud, parity := p.parity }

/-- The last character of the reply has been sent: the line is released, or the line-reset start is made
(R173, R175, R180). Without a reply being sent there is no last character. -/
def replyDone (volts : Nat) (s : State) : State :=
  if s.line.reply.isNone then s
  else if s.line.resetArmed then driveAlarm (startBase .lineReset volts s)
  else { s with line := releaseLine s.cfg.plant s.line }

/-- REPLY_SENT (R180). -/
def execReplySent (volts : Nat) (s : State) : Result := .next (whenRunning (replyDone volts) s)

/-- The time counter counts 10 ms and wraps to 0 after 4294967295 (R154); the spacing timer is 10 ms older
(assumption log 3). -/
def tick (s : State) : State :=
  { s with
    store := { s.store with time := (s.store.time + 1) % 4294967296 }
    arb := { s.arb with spacing := tenLess s.arb.spacing } }

/-- TIME_COUNTER_TICK (R154). -/
def execTimeCounterTick (s : State) : Result := .next (whenRunning tick s)

end Sys2Proof.Machine
end

