-- ==== Sys2Proof/Machine/Reads.lean ====
section
/-! DEFINITION. STA and the GET items (R109, R162, R174, R181 to R183): the fields of each reply, and the two
reads that clear. -/

namespace Sys2Proof.Machine

open Sys2Proof

/-- The reply of STA (R181). -/
def staReply (s : State) : Reply :=
  okWith
    ([monitorWord s.mon.state, changeWord s.coord.state,
      decimal s.arb.holders.length ++ 47 :: decimal s.cfg.plant.pmax,
      decimal s.arb.queue.length,
      if s.alarm then word "ON" else word "OFF",
      if s.store.saving then word "SAVING" else word "IDLE"]
      ++ allStrands.map fun n => stateCode (ctxOf s n).state)

/-- STA (R181). -/
def execSta (s : State) : Result := request .sta (readOnly staReply) s

/-- The reply of GET IDENT: the revision letter of the part this manual describes is A (R182). -/
def identReply : Reply := okWith [word "PALCEN", word "6S", word "A"]

/-- GET IDENT (R182). -/
def execGetIdent (s : State) : Result := request .getIdent (readOnly fun _ => identReply) s

/-- The fields of a Strand Context, in the order of R182. -/
def contextFields (b : Block) : List Text :=
  let c := b.ctx
  [stateCode c.state,
   optional (fun h => stateCode (holdState h)) c.holdReturn,
   optional (fun f => stateCode (freezeState f)) c.freezeReturn,
   optional restartWord c.kind,
   optional planRefText c.plan,
   optional (fun r => decimal (SlotRun.index r)) c.slot,
   optional (fun r => decimal (SlotRun.k r)) c.slot,
   optional (fun r => decimal (SlotRun.s0 r)) c.slot,
   optional decimal c.target,
   optional (fun r => stepText (SlotRun.step r)) c.slot,
   decimal c.speed,
   decimal b.outSpeed,
   optional decimal c.resume,
   decimal c.timer,
   yn c.timeoutNoted,
   decimal c.levelTarget,
   decimal c.stopper,
   signedDecimal c.integrator,
   modeWord c.mode]
    ++ listFields (c.history.map decimal)
    ++ [yn c.permit,
        optional (fun e => decimal (Extremes.peak e)) c.extremes,
        optional (fun e => decimal (Extremes.valley e)) c.extremes,
        decimal c.lag,
        yn c.floorReached,
        yn c.rateNoted,
        yn c.limitNoted]

/-- The reply of GET STRAND n (R182). -/
def strandReply (n : Nat) (s : State) : Reply :=
  match strandOf n with
  | some n => okWith (contextFields s.strands[n])
  | none => noFor "RANGE" []

/-- GET STRAND n (R182). -/
def execGetStrand (n : Nat) (s : State) : Result := request (.getStrand n) (readOnly (strandReply n)) s

/-- A strand record in the order of R156. -/
def strandRecordFields (r : StrandRec) : List Text :=
  [kindText r.kind, decimal r.time, stateCode r.state, optional restartWord r.restart,
   optional planRefText r.plan, optional decimal r.slot, decimal r.speedOut, decimal r.measured,
   optional decimal r.level, decimal r.stopper, yn r.mark]

/-- A plant record in the order of R157. -/
def plantRecordFields (r : PlantRec) : List Text :=
  [kindText r.kind, decimal r.time, monitorWord r.monitor, changeWord r.change, decimal r.volts, yn r.mark]
    ++ listFields (r.affected.map strandText)

/-- A First record, or NONE, and the Next set (R162, R182). -/
def logFields {ρ : Type} (fields : ρ → List Text) (l : Log ρ) : List Text :=
  (match l.first with
    | some r => fields r
    | none => [word "NONE"])
    ++ listFields (l.next.map fun e => joinColon [kindText e.kind, yn e.mark])

/-- The active-condition set in ascending kind number (R162). -/
def activeFields (a : ActiveSet) : List Text :=
  listFields ((allConds.filter (isActive a)).map fun k => kindText (condKind k))

/-- The reply of GET LOG (R162, R182). -/
def logReply (l : LogSel) (s : State) : Reply :=
  match l with
  | .plant => okWith (logFields plantRecordFields s.plantLog)
  | .strand n =>
    match strandOf n with
    | some n => okWith (logFields strandRecordFields s.strands[n].log ++ activeFields s.strands[n].active)
    | none => noFor "RANGE" []

/-- GET LOG n or P (R162). -/
def execGetLog (l : LogSel) (s : State) : Result := request (.getLog l) (readOnly (logReply l)) s

/-- An empty name is written `-` (R182). -/
def nameText (t : Text) : Text := if t.isEmpty then word "-" else t

/-- The header fields of GET PLAN; an absent header gives `-` in each (R182). -/
def headerFields : Option Header → List Text
  | none => [word "-", word "-", word "-", word "-", word "-"]
  | some h => [restartWord h.kind, decimal h.fill, decimal h.dwell, decimal h.count, nameText h.name]

/-- The defined slot positions (R182). -/
def definedSlots (p : Plan) : List Text :=
  ((List.range 16).filter fun i => ((p.slots[i]?).getD none).isSome).map fun i => decimal (i + 1)

/-- The reply of GET PLAN (R54, R182). -/
def planReply (p : PlanSel) (s : State) : Reply :=
  match p with
  | .fallback =>
    okWith ([word "VALID", decimal 0, decimal 0, word "-", word "LNORM", decimal 0, decimal 1, word "-"]
      ++ listFields [decimal 1])
  | .plan p =>
    match planOf p with
    | some p =>
      okWith ([planStateWord s.plans[p].state, decimal s.plans[p].rev, decimal (refCount s p)]
        ++ headerFields s.plans[p].header ++ listFields (definedSlots s.plans[p]))
    | none => noFor "RANGE" []

/-- GET PLAN p (R54). -/
def execGetPlan (p : PlanSel) (s : State) : Result := request (.getPlan p) (readOnly (planReply p)) s

/-- The fields of a slot position, or UNDEF (R182). -/
def slotFields : Option Slot → List Text
  | some x => [targetText x.target, decimal x.duration, decimal x.level, stepText x.step]
  | none => [word "UNDEF"]

/-- The reply of GET SLOT (R54, R182). -/
def slotReply (p : PlanSel) (i : Nat) (s : State) : Reply :=
  match p with
  | .fallback =>
    if i = 1 then okWith [word "RESUME", decimal 300, word "LNORM", word "AUTO"] else okWith [word "UNDEF"]
  | .plan p =>
    match planOf p with
    | some p => okWith (slotFields ((s.plans[p].slots[i - 1]?).getD none))
    | none => noFor "RANGE" []

/-- GET SLOT p s (R182). -/
def execGetSlot (p : PlanSel) (i : Nat) (s : State) : Result :=
  request (.getSlot p i) (readOnly (slotReply p i)) s

/-- The reply of GET CFG: the value that an accepted PUT has left, saved or not (R165). -/
def cfgReply (k : CfgKey) (s : State) : Reply :=
  match getItem s.cfg k with
  | some v => okWith [valueText v]
  | none => noFor "UNKNOWN" []

/-- GET CFG key (R182). -/
def execGetCfg (k : CfgKey) (s : State) : Result := request (.getCfg k) (readOnly (cfgReply k)) s

/-- A queue entry as `strand:class:time` (R182). -/
def entryText (e : QEntry) : Text := joinColon [strandText e.strand, decimal e.cls, decimal e.time]

/-- The reply of GET PERMIT (R109, R182). -/
def permitReply (s : State) : Reply :=
  okWith ([decimal s.cfg.plant.pmax, decimal s.cfg.plant.gap]
    ++ listFields (s.arb.holders.map strandText) ++ listFields (s.arb.queue.map entryText)
    ++ [match s.arb.spacing with
        | some t => decimal (t / 10)
        | none => word "STOPPED"])

/-- GET PERMIT (R109). -/
def execGetPermit (s : State) : Result := request .getPermit (readOnly permitReply) s

/-- The reply of GET STORE (R168, R182). -/
def storeReply (s : State) : Reply :=
  okWith
    [if s.store.saving then word "SAVING" else word "IDLE",
     if s.store.lastOk then word "OK" else word "FAIL",
     decimal s.store.image.count,
     if s.store.image.valid then word "VALID" else word "INVALID"]

/-- GET STORE (R168). -/
def execGetStore (s : State) : Result := request .getStore (readOnly storeReply) s

/-- GET CAUSE: the set flags are reported and all four cleared in one event (R174, R183). -/
def readCause (s : State) : State :=
  let t := answer (okWith (listFields (flagWords s.store.flags))) s
  { t with store := { t.store with flags := flagsClear } }

/-- GET CAUSE (R174). -/
def execGetCause (s : State) : Result := request .getCause readCause s

/-- GET LINEERR: the counter is reported and set to 0 in one event (R177, R183). -/
def readLineErrors (s : State) : State :=
  let t := answer (okWith [decimal s.line.errors]) s
  { t with line := { t.line with errors := 0 } }

/-- GET LINEERR (R177). -/
def execGetLineerr (s : State) : Result := request .getLineerr readLineErrors s

/-- The reply of GET TIME (R154). -/
def timeReply (s : State) : Reply := okWith [decimal s.store.time]

/-- GET TIME (R154). -/
def execGetTime (s : State) : Result := request .getTime (readOnly timeReply) s

end Sys2Proof.Machine
end

