-- ==== Sys2Proof/Machine/Store.lean ====
section
/-! DEFINITION. The Settings Store's requests and saves (chapter 9): PUT, SAV, RST and SAVE_COMPLETION. -/

namespace Sys2Proof.Machine

open Sys2Proof

/-! ## PUT (R165) -/

/-- Test 2 on one pair: ENABLED.n while strand n is not IDLE, then the range of the item. -/
def pairRefusal (s : State) (p : CfgKey × Value) : Option Reply :=
  match p.1 with
  | .strand .enabled n =>
    if (ctxOf s n).state ≠ .idle then some (noFor "STATE" [keyText p.1])
    else if accepts p.1 p.2 then none
    else some (noFor "RANGE" [keyText p.1])
  | k => if accepts k p.2 then none else some (noFor "RANGE" [keyText k])

/-- The resulting set of values; the last pair of a key counts (R165, test 3). -/
def applyPairs (c : Cfg) (pairs : List (CfgKey × Value)) : Cfg :=
  pairs.foldl (fun c p => setItem c p.1 p.2) c

/-- The three tests of PUT in their order (R165). -/
def putRefusal (s : State) (pairs : List (CfgKey × Value)) : Option Reply :=
  if s.store.saving then some (noFor "BUSY" [])
  else
    match pairs.findSome? (pairRefusal s) with
    | some reply => some reply
    | none =>
      (pairs.find? fun p => !crossCheck (applyPairs s.cfg pairs) p.1).map fun p => noFor "RANGE" [keyText p.1]

/-- Every value applied in one event; a PMAX that is raised brings a grant evaluation (R101, R103, R165). -/
def applyPut (pairs : List (CfgKey × Value)) (s : State) : State :=
  let t := { s with cfg := applyPairs s.cfg pairs }
  if s.cfg.plant.pmax < t.cfg.plant.pmax then evaluateGrants t else t

/-- PUT at the Settings Store (R165). -/
def putAt (pairs : List (CfgKey × Value)) (s : State) : State :=
  match putRefusal s pairs with
  | some reply => answer reply s
  | none => applyPut pairs (answer okPlain s)

/-- PUT key=value ... (R165, R184). -/
def execPut (pairs : List (CfgKey × Value)) (s : State) : Result := request (.put pairs) (putAt pairs) s

/-! ## SAV and its completion -/

/-- The save count at which SAV is refused (R167). -/
def saveLimit : Nat := 50000

/-- A save begins: the marker is cleared and the plans and configuration of this moment are written (R167). -/
def beginSave (s : State) : State :=
  { s with
    store :=
      { s.store with
        saving := true
        image := { s.store.image with valid := false, data := some { plans := s.plans, cfg := s.cfg } } } }

/-- SAV at the Settings Store (R167). -/
def savAt (s : State) : State :=
  if s.store.saving then answer (noFor "BUSY" []) s
  else if s.store.image.count = saveLimit then answer (noFor "WEAR" []) s
  else answer okPlain (beginSave s)

/-- SAV (R167). -/
def execSav (s : State) : Result := request .sav savAt s

/-- A save completes well: the marker is set and the save count rises (R167). -/
def saveDone (s : State) : State :=
  { s with
    store :=
      { s.store with
        saving := false, lastOk := true
        image := { s.store.image with valid := true, count := s.store.image.count + 1 } } }

/-- A save fails: the marker stays cleared and STORE_FAULT is recorded (R168). -/
def saveFailed (s : State) : State :=
  raisePlant .storeFault [] { s with store := { s.store with saving := false, lastOk := false } }

/-- The completion of the save in flight; with none there is no completion (R167, R168). -/
def saveCompletes (readBackAgrees inTime : Bool) (s : State) : State :=
  if s.store.saving then (if readBackAgrees && inTime then saveDone s else saveFailed s) else s

/-- SAVE_COMPLETION (R168). -/
def execSaveCompletion (readBackAgrees inTime : Bool) (s : State) : Result :=
  .next (whenRunning (saveCompletes readBackAgrees inTime) s)

/-! ## RST -/

/-- Every strand is IDLE. -/
def allIdle (s : State) : Bool := allStrands.all fun n => (ctxOf s n).state = .idle

/-- RST at the Settings Store: accepted, it arms the line-reset start (R173). -/
def rstAt (s : State) : State :=
  if s.store.saving then answer (noFor "BUSY" []) s
  else if !allIdle s then answer (noFor "STATE" []) s
  else
    let t := answer okPlain s
    { t with line := { t.line with resetArmed := true } }

/-- RST (R173). -/
def execRst (s : State) : Result := request .rst rstAt s

end Sys2Proof.Machine
end

