-- ==== Sys2Proof/Machine/Verbs.lean ====
section
/-! DEFINITION. The strand verbs (section 1.6) and ACK (R160). -/

namespace Sys2Proof.Machine

open Sys2Proof

/-! ## BEG -/

/-- The plan number BEG seeks: the argument, or DEFS.n (R33, check 5). -/
def soughtStart (s : State) (n : Strand) (plan : Option Nat) : Nat := plan.getD s.cfg.strands[n].defs

/-- The checks of BEG in their order (R33): the reason word of the first that fails, or the plan reference. -/
def begChecks (s : State) (n : Strand) (plan : Option Nat) (barSeated ready : Bool) : Except String PlanRef :=
  if (ctxOf s n).state ≠ .idle ∨ s.cfg.strands[n].enabled = false then .error "STATE"
  else if !(barSeated && ready) then .error "NOTREADY"
  else if s.mon.state ≠ .normal then .error "SUPPLY"
  else if s.coord.state ≠ .noChange then .error "CHANGE"
  else
    match usableRef s (soughtStart s n plan) .start with
    | some r => .ok r
    | none => .error "PLAN"

/-- The active-condition set at a BEG: BREAKOUT is out of it, even where no period in TRIPPED or IDLE has come since the
trip to empty the set (R153), so that the first FILL period finds a BREAKOUT still asserted at a new onset and trips the
strand, as R33 and R150 say (assumption log 30). -/
def activeAtBegin (a : ActiveSet) : ActiveSet := { a with breakout := false }

/-- The START restart BEG begins: FILL with the loop closed from 0 toward the plan's fill level (R12, R13,
R33, R79). -/
def beginStart (n : Strand) (r : PlanRef) (s : State) : State :=
  mapBlock n (fun b => openLoop (planFill s n r) { b with active := activeAtBegin b.active })
    (mapCtx n (fun c => { restartCtx .start r c with state := .fill }) s)

/-- BEG at strand `n` (R33). -/
def begAt (n : Nat) (plan : Option Nat) (barSeated ready : Bool) (s : State) : State :=
  match strandOf n with
  | none => answer (noFor "RANGE" []) s
  | some n =>
    match begChecks s n plan barSeated ready with
    | .error reason => answer (noFor reason []) s
    | .ok r => answer okPlain (beginStart n r s)

/-- BEG n [p] (R33). -/
def execBeg (n : Nat) (plan : Option Nat) (barSeated ready : Bool) (s : State) : Result :=
  request (.beg n plan) (begAt n plan barSeated ready) s

/-! ## HLD and STP -/

/-- HLD is accepted in FILL, DWELL, WAIT_PERMIT and RAMP (R34). -/
def mayHold (s : State) (n : Strand) : Bool := (holdReturnOf (ctxOf s n).state).isSome

/-- HLD at strand `n` (R34). -/
def hldAt (n : Nat) (s : State) : State :=
  match strandOf n with
  | none => answer (noFor "RANGE" []) s
  | some n => if mayHold s n then answer okPlain (holdStrand n s) else answer (noFor "STATE" []) s

/-- HLD n (R34). -/
def execHld (n : Nat) (s : State) : Result := request (.hld n) (hldAt n) s

/-- HLD ALL (R34): each strand judges its part in its own state; the reply lists the strands that were held. -/
def hldAllAt (broadcast : Bool) (s : State) : State :=
  answerUnless broadcast (okWith (listFields ((allStrands.filter (mayHold s)).map strandText)))
    (forEach holdStrand s)

/-- HLD ALL, addressed or broadcast (R34). -/
def execHldAll (broadcast : Bool) (s : State) : Result := request (.hldAll broadcast) (hldAllAt broadcast) s

/-- STP is accepted in every state but IDLE, STOPPING and TRIPPED (R36). -/
def mayStop (s : State) (n : Strand) : Bool :=
  match (ctxOf s n).state with
  | .idle | .stopping | .tripped => false
  | .fill | .dwell | .waitPermit | .ramp | .cast | .held | .change | .frozen => true

/-- STP at one strand, where it is accepted. -/
def stopStrand (n : Strand) (s : State) : State := if mayStop s n then enterStopping n s else s

/-- STP at strand `n` (R36). -/
def stpAt (n : Nat) (s : State) : State :=
  match strandOf n with
  | none => answer (noFor "RANGE" []) s
  | some n => if mayStop s n then answer okPlain (stopStrand n s) else answer (noFor "STATE" []) s

/-- STP n (R36). -/
def execStp (n : Nat) (s : State) : Result := request (.stp n) (stpAt n) s

/-- STP ALL (R36), with the strands that were stopped in the reply. -/
def stpAllAt (broadcast : Bool) (s : State) : State :=
  answerUnless broadcast (okWith (listFields ((allStrands.filter (mayStop s)).map strandText)))
    (forEach stopStrand s)

/-- STP ALL, addressed or broadcast (R36). -/
def execStpAll (broadcast : Bool) (s : State) : Result := request (.stpAll broadcast) (stpAllAt broadcast) s

/-! ## RES -/

/-- The strand takes up hold_return's state (R35): WAIT_PERMIT at the level of slot 1 and enqueued again
(R16, R82), the others as they were held. -/
def resumeStrand (n : Strand) (h : HoldReturn) (s : State) : State :=
  match h with
  | .waitPermit =>
    enqueue n (mapCtx n (fun c =>
      { c with
        state := .waitPermit, holdReturn := none
        levelTarget := (planSlot s n (refOf s n) 1).level }) s)
  | .fill | .dwell | .ramp => mapCtx n (fun c => { c with state := holdState h, holdReturn := none }) s

/-- RES at strand `n`; with a plan argument it is refused in every state (R35). -/
def resAt (n : Nat) (plan : Option Nat) (s : State) : State :=
  match strandOf n with
  | none => answer (noFor "RANGE" []) s
  | some n =>
    match plan, (ctxOf s n).state, (ctxOf s n).holdReturn with
    | none, .held, some h => answer okPlain (resumeStrand n h s)
    | _, _, _ => answer (noFor "STATE" []) s

/-- RES n [p] (R35). -/
def execRes (n : Nat) (plan : Option Nat) (s : State) : Result := request (.res n plan) (resAt n plan) s

/-! ## REL and ACK -/

/-- The checks of REL in their order (R37): the reason word of the first that fails. -/
def relChecks (s : State) (n : Strand) (measured : Nat) : Option String :=
  if (ctxOf s n).state ≠ .tripped then some "STATE"
  else if s.strands[n].log.first.isSome then some "PENDING"
  else if limitMeasured measured < 10 then none
  else some "STATE"

/-- The strand is released into IDLE and its TRIP line deasserted (R32, R37). -/
def releaseTrip (n : Strand) (s : State) : State :=
  mapBlock n (fun b => { b with outTrip := false }) (enterIdle n s)

/-- REL at strand `n` (R37). -/
def relAt (n : Nat) (measured : Nat) (s : State) : State :=
  match strandOf n with
  | none => answer (noFor "RANGE" []) s
  | some n =>
    match relChecks s n measured with
    | some reason => answer (noFor reason []) s
    | none => answer okPlain (releaseTrip n s)

/-- REL n (R37). -/
def execRel (n : Nat) (measured : Nat) (s : State) : Result := request (.rel n) (relAt n measured) s

/-- The First record and Next set of strand `n`'s log removed, ALARM driven as the logs then require (R159, R160). -/
def clearLog (n : Strand) (s : State) : State :=
  driveAlarm (mapBlock n (fun b => { b with log := Log.empty }) s)

/-- The plant log cleared in the same way (R160). -/
def clearPlantLog (s : State) : State := driveAlarm { s with plantLog := Log.empty }

/-- ACK at the Deviation Log: OK also on an empty log (R160). -/
def ackAt (l : LogSel) (s : State) : State :=
  match l with
  | .plant => answer okPlain (clearPlantLog s)
  | .strand n =>
    match strandOf n with
    | none => answer (noFor "RANGE" []) s
    | some n => answer okPlain (clearLog n s)

/-- ACK n or P (R160). -/
def execAck (l : LogSel) (s : State) : Result := request (.ack l) (ackAt l) s

end Sys2Proof.Machine
end

