-- ==== Sys2Proof/Machine/Dispatch.lean ====
section
/-! DEFINITION. One arm per command of the table, in the table's order. -/

namespace Sys2Proof.Machine

open Sys2Proof

/-- The effect of a command on everything but the queue. -/
def exec (i : Instr) (s : State) : Host.Outcome State Fault Refusal :=
  match i with
  | .controlPeriod n sample => Sys2Proof.Machine.execControlPeriod n sample s
  | .grantEvaluation => Sys2Proof.Machine.execGrantEvaluation s
  | .spacingTimerExpiry => Sys2Proof.Machine.execSpacingTimerExpiry s
  | .carLineSampling changeBegin newSeated seatedFirst => Sys2Proof.Machine.execCarLineSampling changeBegin newSeated seatedFirst s
  | .changeWindowExpiry => Sys2Proof.Machine.execChangeWindowExpiry s
  | .busVoltageSampling volts => Sys2Proof.Machine.execBusVoltageSampling volts s
  | .settleTimerExpiry measured => Sys2Proof.Machine.execSettleTimerExpiry measured s
  | .rideThroughExpiry => Sys2Proof.Machine.execRideThroughExpiry s
  | .timeCounterTick => Sys2Proof.Machine.execTimeCounterTick s
  | .requestLine chars => Sys2Proof.Machine.execRequestLine chars s
  | .replySent volts => Sys2Proof.Machine.execReplySent volts s
  | .sta => Sys2Proof.Machine.execSta s
  | .getIdent => Sys2Proof.Machine.execGetIdent s
  | .getStrand n => Sys2Proof.Machine.execGetStrand n s
  | .getLog l => Sys2Proof.Machine.execGetLog l s
  | .getPlan p => Sys2Proof.Machine.execGetPlan p s
  | .getSlot p pos => Sys2Proof.Machine.execGetSlot p pos s
  | .getCfg key => Sys2Proof.Machine.execGetCfg key s
  | .getPermit => Sys2Proof.Machine.execGetPermit s
  | .getStore => Sys2Proof.Machine.execGetStore s
  | .getCause => Sys2Proof.Machine.execGetCause s
  | .getLineerr => Sys2Proof.Machine.execGetLineerr s
  | .getTime => Sys2Proof.Machine.execGetTime s
  | .put pairs => Sys2Proof.Machine.execPut pairs s
  | .plnHeaderWrite p h => Sys2Proof.Machine.execPlnHeaderWrite p h s
  | .plnSlotWrite p pos groups => Sys2Proof.Machine.execPlnSlotWrite p pos groups s
  | .plnClr p => Sys2Proof.Machine.execPlnClr p s
  | .chk p => Sys2Proof.Machine.execChk p s
  | .beg n plan barSeated ready => Sys2Proof.Machine.execBeg n plan barSeated ready s
  | .hld n => Sys2Proof.Machine.execHld n s
  | .hldAll broadcast => Sys2Proof.Machine.execHldAll broadcast s
  | .res n plan => Sys2Proof.Machine.execRes n plan s
  | .stp n => Sys2Proof.Machine.execStp n s
  | .stpAll broadcast => Sys2Proof.Machine.execStpAll broadcast s
  | .rel n measured => Sys2Proof.Machine.execRel n measured s
  | .ack l => Sys2Proof.Machine.execAck l s
  | .sav => Sys2Proof.Machine.execSav s
  | .rst => Sys2Proof.Machine.execRst s
  | .saveCompletion readBackAgrees inTime => Sys2Proof.Machine.execSaveCompletion readBackAgrees inTime s
  | .shutdown => Sys2Proof.Machine.execShutdown s
  | .controlSupplyFailingDeassert => Sys2Proof.Machine.execControlSupplyFailingDeassert s
  | .powerApplication failing => Sys2Proof.Machine.execPowerApplication failing s
  | .start terminals volts => Sys2Proof.Machine.execStart terminals volts s
  | .characterReceived code parityError framingError => Sys2Proof.Machine.execCharacterReceived code parityError framingError s
  | .controlPowerLoss => Sys2Proof.Machine.execControlPowerLoss s
  | .snapshotCompletion => Sys2Proof.Machine.execSnapshotCompletion s

end Sys2Proof.Machine
end

