-- ==== Sys2Proof/WellFormed.lean ====
section
/-! DEFINITION. Which commands are well formed: those whose operands a request line, a character of eight data
bits or the terminal can carry. `exec` has a meaning for every other one too: the interface's own refusal. -/

namespace Sys2Proof

open Machine

/-- Every number a request carries has at most six digits (R179, test 2). -/
def Value.wf : Value → Bool
  | .num v => v < 1000000
  | .yes | .no | .parityNone | .even | .trip | .hold | .note | .on | .off | .other => true

/-- A request the interface hands to its owner: it passes the tests of R179. -/
def Request.wf (r : Request) : Bool :=
  (interfaceRefusal r).isNone &&
    match r with
    | .put pairs => pairs.all fun p => p.2.wf
    | _ => true

/-- A terminal sample: any level, any unsigned measured speed, any flags (R1). -/
def Sample.wf (_ : Sample) : Bool := true

/-- A well-formed command. The codes of received characters have eight bits (R175), a request line ends in CR
(R176), and a verb row carries a well-formed request. -/
def Instr.wf (c : Instr) : Bool :=
  match c.request? with
  | some r => r.wf
  | none =>
    match c with
    | .requestLine chars => chars.all (fun x => x < 256) && chars.getLast? == some 13
    | .characterReceived code _ _ => code < 256
    | _ => true

end Sys2Proof
end

