-- ==== Sys2Proof/Safety.lean ====
section
/-! DEFINITION. The laws of the part as predicates of its state, each in the form that every command keeps:
Laws 2 to 5, 8 and 10 to 12 with R31, R32, R38, R39 and R49. Law 1 is a statement about commands. -/

namespace Sys2Proof.Machine

open Sys2Proof

/-! ## Permits and queue (Laws 2 and 3) -/

/-- RAMP, or HELD with hold_return RAMP: where a permit is held (R106). -/
abbrev holdsRamp (c : Ctx) : Prop := c.state = .ramp ∨ (c.state = .held ∧ c.holdReturn = some .ramp)

/-- Law 2 (R106): the holders are exactly the strands whose permit held is yes, each once, and those are exactly
the strands in RAMP or in HELD with hold_return RAMP. A context in the snapshot that holds a permit was in one
of these states. -/
abbrev permitLaw (s : State) : Prop :=
  s.arb.holders.Pairwise (· < ·)
    ∧ (∀ n : Strand, n ∈ s.arb.holders ↔ (ctxOf s n).permit = true)
    ∧ (∀ n : Strand, (ctxOf s n).permit = true ↔ holdsRamp (ctxOf s n))
    ∧ ∀ d ∈ s.store.snapshot.data, ∀ n : Strand, d.ctxs[n].permit = true → holdsRamp d.ctxs[n]

/-- Law 3 (R107): a strand stands in the waiting queue exactly while it is in WAIT_PERMIT, at most once. -/
abbrev queueLaw (s : State) : Prop :=
  (s.arb.queue.map QEntry.strand).Nodup
    ∧ ∀ n : Strand, n ∈ s.arb.queue.map QEntry.strand ↔ (ctxOf s n).state = .waitPermit

/-- The order of the waiting queue (R96): its class 1 entries before its class 2 entries. -/
abbrev queueOrdered (s : State) : Prop :=
  s.arb.queue.Pairwise (fun a b => a.cls ≤ b.cls) ∧ ∀ e ∈ s.arb.queue, e.cls = 1 ∨ e.cls = 2

/-! ## Settings -/

/-- Every strand item lies in its range and the items pass their cross-checks (R163, R165). -/
abbrev strandCfgOk (g : StrandCfg) : Prop :=
  ∀ i ∈ allStrandItems, accepts (.strand i 0) (getStrandItem g i) = true ∧ strandCross g i = true

/-- Every plant item lies in its range and the items pass their cross-checks (R164, R165). -/
abbrev plantCfgOk (p : PlantCfg) : Prop :=
  (∀ i ∈ allPlantItems, accepts (.plant i) (getPlantItem p i) = true) ∧ p.vdip + 20 ≤ p.vok

/-- A whole configuration within its ranges and cross-checks. -/
abbrev cfgOk (c : Cfg) : Prop := (∀ n : Strand, strandCfgOk c.strands[n]) ∧ plantCfgOk c.plant

/-- Working memory, the settings in force at each strand and the image are all within range (R163 to R166). -/
abbrev settingsLaw (s : State) : Prop :=
  cfgOk s.cfg ∧ (∀ n : Strand, strandCfgOk s.strands[n].force) ∧ ∀ d ∈ s.store.image.data, cfgOk d.cfg

/-! ## Speed and stopper (Laws 4 and 5, R31) -/

/-- Every internal speed of a context lies in 0 to 112000, and the setpoint is 0 in IDLE and TRIPPED
(R3, R31, R74). -/
abbrev ctxSpeedOk (c : Ctx) : Prop :=
  c.speed ≤ 112000 ∧ (∀ v ∈ c.resume, v ≤ 112000) ∧ (∀ v ∈ c.target, v ≤ 112000)
    ∧ (∀ r ∈ c.slot, r.s0 ≤ 112000) ∧ ((c.state = .idle ∨ c.state = .tripped) → c.speed = 0)

/-- The first part of Law 4 (R74), with R31. -/
abbrev speedLaw (s : State) : Prop := ∀ n : Strand, ctxSpeedOk (ctxOf s n)

/-- The states in which the stopper is closed (R78, R94): the four OFF states, and FROZEN entered from, or
rewritten to, CHANGE. -/
abbrev stopperShut (c : Ctx) : Prop :=
  c.state = .idle ∨ c.state = .tripped ∨ c.state = .stopping ∨ c.state = .change
    ∨ (c.state = .frozen ∧ c.freezeReturn = some .change)

/-- Law 5 (R94) with the range of the integrator (R3): the stopper setpoint lies in 0 to 1000 and the
integrator in -1000 to 1000; where the stopper is closed the loop is OFF with both at 0. -/
abbrev stopperLaw (s : State) : Prop :=
  ∀ n : Strand,
    (ctxOf s n).stopper ≤ 1000 ∧ -1000 ≤ (ctxOf s n).integrator ∧ (ctxOf s n).integrator ≤ 1000
      ∧ (stopperShut (ctxOf s n) →
          (ctxOf s n).mode = .off ∧ (ctxOf s n).stopper = 0 ∧ (ctxOf s n).integrator = 0)

/-! ## Outputs (R6, R32, R94, Law 8) -/

/-- The part is in SHUTDOWN, or powered and waiting for its start (R169, R170). -/
abbrev outputsHeld (s : State) : Prop := s.phase = .shutdown ∨ s.phase = .holding

/-- R32: while the part runs a TRIP line is asserted exactly in TRIPPED. In SHUTDOWN and from the application
of control power until the start every TRIP line is asserted and every speed and stopper output is 0 (R6, R170). -/
abbrev outputLaw (s : State) : Prop :=
  (s.phase = .running → ∀ n : Strand, s.strands[n].outTrip = true ↔ (ctxOf s n).state = .tripped)
    ∧ (outputsHeld s → ∀ n : Strand,
        s.strands[n].outTrip = true ∧ s.strands[n].outSpeed = 0 ∧ s.strands[n].outStopper = 0)

/-- Law 8 (R159): while the part runs ALARM is asserted exactly while some log holds an alarm mark; in SHUTDOWN
and from the application of control power until the start it is asserted. -/
abbrev alarmLaw (s : State) : Prop :=
  (s.phase = .running → s.alarm = anyMark s) ∧ (outputsHeld s → s.alarm = true)

/-! ## Logs (Law 10) -/

/-- A Next set holds each kind at most once, kept in ascending kind number, and is empty whenever the First
record is absent; its kinds are numbered `lo` to `hi` (R155, R161). -/
abbrev logOk {ρ : Type} (lo hi : Nat) (l : Log ρ) : Prop :=
  (l.first = none → l.next = []) ∧ l.next.Pairwise (fun a b => kindNumber a.kind < kindNumber b.kind)
    ∧ ∀ e ∈ l.next, lo ≤ kindNumber e.kind ∧ kindNumber e.kind ≤ hi

/-- Law 10 (R161) for the seven logs and those of the snapshot: strand logs hold kinds 1 to 16 and the plant
log kinds 15 to 19 (R155). -/
abbrev logsLaw (s : State) : Prop :=
  (∀ n : Strand, logOk 1 16 s.strands[n].log) ∧ logOk 15 19 s.plantLog
    ∧ ∀ d ∈ s.store.snapshot.data, (∀ n : Strand, logOk 1 16 d.logs[n]) ∧ logOk 15 19 d.plantLog

/-! ## Supply and change (Laws 11 and 12) -/

/-- Law 11 (R145): away from NORMAL every strand is in IDLE, FROZEN, STOPPING or TRIPPED. -/
abbrev supplyLaw (s : State) : Prop :=
  s.mon.state ≠ .normal → ∀ n : Strand,
    (ctxOf s n).state = .idle ∨ (ctxOf s n).state = .frozen ∨ (ctxOf s n).state = .stopping
      ∨ (ctxOf s n).state = .tripped

/-- Law 12 (R126): in CHANGING every strand is in IDLE, TRIPPED, STOPPING or CHANGE, or in FROZEN with
freeze_return CHANGE. -/
abbrev changeLaw (s : State) : Prop :=
  s.coord.state = .changing → ∀ n : Strand,
    (ctxOf s n).state = .idle ∨ (ctxOf s n).state = .tripped ∨ (ctxOf s n).state = .stopping
      ∨ (ctxOf s n).state = .change
      ∨ ((ctxOf s n).state = .frozen ∧ (ctxOf s n).freezeReturn = some .change)

/-! ## Plans (R38, R39, R49) -/

/-- A plan record as R38 and R39 have it: EMPTY holds nothing, VALID passes the checks of R47, and what is held
lies in its ranges with a revision of 0 to 65535. -/
abbrev planOk (p : Plan) : Prop :=
  p.rev < 65536
    ∧ (p.state = .empty → p.header = none ∧ ∀ i : Fin 16, p.slots[i] = none)
    ∧ (p.state = .valid → p.header.isSome = true ∧ planFault p = none)
    ∧ (∀ h ∈ p.header, headerInRange h = true)
    ∧ ∀ i : Fin 16, ∀ x ∈ p.slots[i], slotInRange x = true

/-- The plans of working memory and of the image are as R38 and R39 have them. -/
abbrev planTableLaw (s : State) : Prop :=
  (∀ p : PlanNo, planOk s.plans[p]) ∧ ∀ d ∈ s.store.image.data, ∀ p : PlanNo, planOk d.plans[p]

/-- The law of R49 for one reference. -/
abbrev refOk (s : State) : PlanRef → Prop
  | .plan p rev => s.plans[p].state = .valid ∧ s.plans[p].rev = rev
  | .fallback => True

/-- R49: every plan a Strand Context references is VALID at the revision the context holds. -/
abbrev referenceLaw (s : State) : Prop := ∀ n : Strand, ∀ r ∈ (ctxOf s n).plan, refOk s r

/-! ## Timers and bounded counts (R110, R127) -/

/-- The monitor's timers as its rules start and stop them: ride-through runs in DIP and SETTLING only, settle in
SETTLING and OUTAGE only (R129 to R136); the low count and the latest sample in their ranges (R127, R128). -/
abbrev monitorLaw (s : State) : Prop :=
  (s.mon.ride.isSome = true ↔ (s.mon.state = .dip ∨ s.mon.state = .settling))
    ∧ (s.mon.settle.isSome = true ↔ (s.mon.state = .settling ∨ s.mon.state = .outage))
    ∧ s.mon.low ≤ 2 ∧ s.mon.sample ≤ 1500

/-- The change window runs only in CHANGING, and while the part runs it does run there (R113, R118, R121, R122);
each run count is at most 2 (R110). -/
abbrev coordinatorLaw (s : State) : Prop :=
  (s.coord.state = .noChange → s.coord.window = none)
    ∧ (s.phase = .running → s.coord.state = .changing → s.coord.window.isSome = true)
    ∧ s.coord.runBegin ≤ 2 ∧ s.coord.runSeated ≤ 2

/-! ## The words of the statements about commands -/

/-- A request that reaches its owner now: the part runs, and the request was handed over or its line arrives
while no other request is being answered (R179). That a verb command takes its request from those handed over, or else
stands for its line arriving, is the model's (assumption log 4). -/
abbrev taken (r : Request) (s : State) : Prop := s.phase = .running ∧ mayTake r s.line = true

/-- `s` with request `r` taken and answered, nothing but the line changed (R178, R180). What taking it leaves among the
requests handed over, and that a line under way before it is counted as faulty, is the model's (assumption log 4). -/
abbrev answered (r : Request) (reply : Reply) (s : State) : State :=
  { s with line := { lineTaking r s.line with reply := some (replyLine s.line.addr reply) } }

/-- The commands that act on a part which does not run: control power, its warning, the snapshot and the start
(R169, R170). -/
def isPowerCommand : Instr → Bool
  | .shutdown | .controlSupplyFailingDeassert | .powerApplication _ | .start _ _ | .controlPowerLoss
  | .snapshotCompletion => true
  | .controlPeriod _ _ | .grantEvaluation | .spacingTimerExpiry | .carLineSampling _ _ _ | .changeWindowExpiry
  | .busVoltageSampling _ | .settleTimerExpiry _ | .rideThroughExpiry | .timeCounterTick | .requestLine _
  | .replySent _ | .sta | .getIdent | .getStrand _ | .getLog _ | .getPlan _ | .getSlot _ _ | .getCfg _
  | .getPermit | .getStore | .getCause | .getLineerr | .getTime | .put _ | .plnHeaderWrite _ _
  | .plnSlotWrite _ _ _ | .plnClr _ | .chk _ | .beg _ _ _ _ | .hld _ | .hldAll _ | .res _ _ | .stp _ | .stpAll _
  | .rel _ _ | .ack _ | .sav | .rst | .saveCompletion _ _ | .characterReceived _ _ _ => false

/-! ### What stage 2 finds on a sample

Each check in the states its rule names, under the settings that come into force in the period (R84). -/

/-- A sample without BREAKOUT whose level `l` is valid (R1, R90, R150). -/
abbrev validSample (x : Sample) (l : Nat) : Prop :=
  x.breakout = false ∧ x.gaugeValid = true ∧ x.level = (l : Int) ∧ l ≤ 1500

/-- INTERLOCK_LOST is found (R151). -/
abbrev findsInterlock (s : State) (n : Strand) (x : Sample) : Prop :=
  x.ready = false ∧ (ctxOf s n).state ≠ .idle ∧ (ctxOf s n).state ≠ .frozen ∧ (ctxOf s n).state ≠ .stopping
    ∧ (ctxOf s n).state ≠ .tripped

/-- LEVEL_HIGH is found (R91). -/
abbrev findsHigh (s : State) (n : Strand) (l : Nat) : Prop :=
  s.cfg.strands[n].lhigh ≤ l ∧ (ctxOf s n).state ≠ .idle ∧ (ctxOf s n).state ≠ .tripped

/-- BREAKOUT_SUSPECT is found (R92; assumption log 28): the loop is CLOSED once it has taken the sample (R75), at least
four valid samples have refilled the history since it left OFF, and the oldest of the four last levels exceeds `l` by
more than DROP. -/
abbrev findsSuspect (s : State) (n : Strand) (l : Nat) : Prop :=
  (ctxOf s n).mode ≠ .off ∧ 4 ≤ s.strands[n].refilled
    ∧ (ctxOf s n).history.length = 4 ∧ l + s.cfg.strands[n].drop < (ctxOf s n).history.headD 0

/-- RAMP or CAST, where LEVEL_LOW and DRIVE_LAG are checked (R93, R152). -/
abbrev rampOrCast (s : State) (n : Strand) : Prop := (ctxOf s n).state = .ramp ∨ (ctxOf s n).state = .cast

/-- LEVEL_LOW is found (R93). -/
abbrev findsLow (s : State) (n : Strand) (l : Nat) : Prop := rampOrCast s n ∧ l < s.cfg.strands[n].llow

/-- The drive lags: the output driven when the period begins and the measured speed differ by more than LAGTOL (R152). -/
abbrev lags (s : State) (n : Strand) (x : Sample) : Prop :=
  rampOrCast s n
    ∧ (s.cfg.strands[n].lagtol < s.strands[n].outSpeed - min x.measured 8000
        ∨ s.cfg.strands[n].lagtol < min x.measured 8000 - s.strands[n].outSpeed)

/-- DRIVE_LAG is found: the lag brings the lag count to LAGT × 2, or finds it there (R152; a count above a lowered limit is
assumption log 17). -/
abbrev findsLag (s : State) (n : Strand) (x : Sample) : Prop :=
  lags s n x ∧ s.cfg.strands[n].lagt * 2 ≤ (ctxOf s n).lag + 1

/-- A sample of strand `n` with the valid level `l` on which stage 2 finds nothing, and no lag, in the state the strand is
in (R90 to R93, R150 to R152). -/
abbrev soundSample (s : State) (n : Strand) (x : Sample) (l : Nat) : Prop :=
  validSample x l ∧ ¬ findsInterlock s n x ∧ ¬ findsHigh s n l ∧ ¬ findsSuspect s n l ∧ ¬ findsLow s n l ∧ ¬ lags s n x

/-- The record of a deviation found by stage 2 or 3 of a control period on sample `x`, before any other has had its action
(R147, R156). -/
abbrev periodRecord (s : State) (n : Strand) (x : Sample) (k : Kind) : StrandRec :=
  { kind := k
    time := s.store.time
    state := (ctxOf s n).state
    restart := (ctxOf s n).kind
    plan := (ctxOf s n).plan
    slot := (ctxOf s n).slot.map SlotRun.index
    speedOut := ((ctxOf s n).speed + 8) / 16
    measured := min x.measured 8000
    level := validLevel x
    stopper := (ctxOf s n).stopper
    mark := alarmOf s.cfg k }

/-- The setpoint the common steps make of candidate `x` in a control period: capped, held to a step of AMAX × 16 from the
setpoint, and never below 0 (R55, R57). -/
abbrev limitedSpeed (s : State) (n : Strand) (x : Int) : Int :=
  max 0 (max ((ctxOf s n).speed - (s.cfg.strands[n].amax * 16 : Nat))
    (min ((ctxOf s n).speed + (s.cfg.strands[n].amax * 16 : Nat)) (min x (s.cfg.strands[n].vmax * 16 : Nat))))

/-- What every start sets in the blocks, `d` being the plans and configuration it loads (R171 stages 1, 3 and 6,
R95, R110, R127, R136). -/
abbrev startedOn (d : ImageData) (volts : Nat) (t : State) : Prop :=
  t.phase = .running ∧ t.plans = d.plans ∧ t.cfg = d.cfg
    ∧ t.arb = { holders := [], queue := [], spacing := none }
    ∧ t.coord = { state := .noChange, window := none, takenBegin := true, takenSeated := true,
                  runBegin := 0, runSeated := 0 }
    ∧ t.mon = { state := .outage, sample := min volts 1500,
                low := if min volts 1500 < d.cfg.plant.vdip then 1 else 0,
                ride := none, settle := some (roundUp10 d.cfg.plant.tsettle)
                settleCut := false, settleAhead := false }
    ∧ t.store.saving = false ∧ t.store.lastOk = true
    ∧ t.line.recv = .betweenLines ∧ t.line.buffer = [] ∧ t.line.errors = 0 ∧ t.line.reply = none
    ∧ t.line.handed = [] ∧ t.line.resetArmed = false
    ∧ t.line.addr = d.cfg.plant.addr ∧ t.line.baud = d.cfg.plant.baud ∧ t.line.parity = d.cfg.plant.parity
    ∧ ∀ n : Strand, t.strands[n].active = ActiveSet.empty ∧ t.strands[n].force = d.cfg.strands[n]
        ∧ t.strands[n].outSpeed = 0 ∧ t.strands[n].outStopper = 0

/-- The plans and configuration a start loads from image `i`: what a valid image holds, else the factory defaults
with every plan EMPTY at revision 0 (R164, R171). -/
def loads (i : Image) : ImageData → Prop := fun d =>
  (i.valid = true → i.data = some d)
    ∧ (i.valid = false → d.cfg = Cfg.factory ∧ d.plans = Vector.replicate 12 Plan.blank)

end Sys2Proof.Machine
end

