-- ==== Sys2Proof/Certificates/Slice0/Obligations.lean ====
section
/-! DEFINITION. The statements about the part, each formalising rules of the manual. A next state is written
`{ s with … }` with every field that changes, so that what is not named stays as it was. -/

section Statements

open Sys2Proof Sys2Proof.Machine

/-! ## The machine -/

/-- A step takes the command at the front of the queue and runs it with the queue's rest; on an empty queue the
block idles. Both are the model's (assumption log 2). -/
def Obligations.StepTakesTheFrontOrIdles : Prop :=
  (∀ (c : Instr) (rest : List Instr) (s : State), s.pending = c :: rest →
      step s = exec c { s with pending := rest })
    ∧ (∀ s : State, s.pending = [] → step s = .next s)

/-- No command stops the part: every one answers a next state, and leaves the queue of commands alone. The queue is the
model's own (assumption log 2), and that a command out of place answers a next state rests on assumption logs 21 and 22.
Outside operation only control power, its warning, the snapshot and the start are events of the part (R6, R95, R110,
R127, R154, R169, R170); every other command is discarded there (assumption log 22). -/
def Obligations.EveryCommandAnswersNext : Prop :=
  (∀ (c : Instr) (s : State), ∃ t, exec c s = .next t ∧ t.pending = s.pending)
    ∧ (∀ (c : Instr) (s : State), s.phase ≠ .running → isPowerCommand c = false → exec c s = .next s)

/-! ## Laws every step keeps -/

/-- Laws 2 and 3 (R106, R107) are kept by every step, and so is the order of the queue (R96). -/
def Obligations.PermitAndQueueLawsKept : Prop :=
  (∀ s t : State, permitLaw s → queueLaw s → step s = .next t → permitLaw t ∧ queueLaw t)
    ∧ (∀ s t : State, queueOrdered s → step s = .next t → queueOrdered t)

/-- Law 1 (R105) at every step: a strand that becomes a holder leaves the holders at no more than PMAX; holders
within PMAX stay within it unless PMAX is lowered; and there are never more than three. -/
def Obligations.HoldersStayWithinPmax : Prop :=
  ∀ s t : State, step s = .next t →
    (∀ n : Strand, n ∉ s.arb.holders → n ∈ t.arb.holders → t.arb.holders.length ≤ t.cfg.plant.pmax)
      ∧ (s.arb.holders.length ≤ s.cfg.plant.pmax → s.cfg.plant.pmax ≤ t.cfg.plant.pmax →
          t.arb.holders.length ≤ t.cfg.plant.pmax)
      ∧ (settingsLaw s → s.arb.holders.length ≤ 3 → t.arb.holders.length ≤ 3)

/-- Laws 11 and 12 (R145, R126) are kept by every step. -/
def Obligations.SupplyAndChangeLawsKept : Prop :=
  (∀ s t : State, supplyLaw s → step s = .next t → supplyLaw t)
    ∧ (∀ s t : State, changeLaw s → step s = .next t → changeLaw t)

/-- The timers of monitor and coordinator run exactly in the states whose rules start and stop them, and their
counts stay in range (R110, R121, R127 to R136). -/
def Obligations.TimerLawsKept : Prop :=
  ∀ s t : State, monitorLaw s → coordinatorLaw s → step s = .next t → monitorLaw t ∧ coordinatorLaw t

/-- The settings stay within their ranges and cross-checks, in working memory, in force and in the image (R163 to
R166), and the plan records stay as R38 and R39 have them. -/
def Obligations.StoredValuesStayInRange : Prop :=
  (∀ s t : State, settingsLaw s → step s = .next t → settingsLaw t)
    ∧ (∀ s t : State, planTableLaw s → step s = .next t → planTableLaw t)

/-- The first part of Law 4 (R74) with R31, and Law 5 (R94) with the range of the integrator (R3, R86), are kept by
every step. -/
def Obligations.SetpointLawsKept : Prop :=
  (∀ s t : State, settingsLaw s → speedLaw s → step s = .next t → speedLaw t)
    ∧ (∀ s t : State, settingsLaw s → stopperLaw s → step s = .next t → stopperLaw t)

/-- The TRIP lines follow R32 and ALARM follows Law 8 (R159) at every step; outside operation the outputs stay
forced (R6, R170). -/
def Obligations.OutputAndAlarmLawsKept : Prop :=
  (∀ s t : State, outputLaw s → step s = .next t → outputLaw t)
    ∧ (∀ s t : State, alarmLaw s → step s = .next t → alarmLaw t)

/-- Law 10 (R161) is kept by every step. -/
def Obligations.LogsLawKept : Prop := ∀ s t : State, logsLaw s → step s = .next t → logsLaw t

/-- R49 is kept by every step: a referenced plan stays VALID at the revision its strand holds. -/
def Obligations.ReferenceLawKept : Prop := ∀ s t : State, referenceLaw s → step s = .next t → referenceLaw t

/-- The laws hold in the state after reset; that this is a power-on start of a part never written is the model's
(assumption log 1). -/
def Obligations.LawsHoldAtReset : Prop :=
  permitLaw State.reset ∧ queueLaw State.reset ∧ queueOrdered State.reset ∧ supplyLaw State.reset
    ∧ changeLaw State.reset ∧ monitorLaw State.reset ∧ coordinatorLaw State.reset
    ∧ settingsLaw State.reset ∧ speedLaw State.reset ∧ stopperLaw State.reset ∧ outputLaw State.reset
    ∧ alarmLaw State.reset ∧ logsLaw State.reset ∧ planTableLaw State.reset ∧ referenceLaw State.reset

/-! ## Speed, level and the control period -/

/-- The common steps (R57): the candidate is capped at C, then held to P - A or P + A where it lies further away, and not
let below 0; the cap and the rate limit have acted exactly where they changed it. So the setpoint moves by at most A and
does not pass the larger of cap and previous setpoint: where P lies above C it falls by A and stays above C meanwhile,
which follows the steps against R57's closing sentence (assumption log 25). The candidates (R61, R62): AUTO ends on ST and
is before that the whole number nearest the line on its S0 side; an override moves from P toward ST by the smaller of the
distance and O × 16. -/
def Obligations.SpeedArithmeticFollowsChapter3 : Prop :=
  (∀ (cap accel prev : Nat) (x : Int),
      let o := commonSteps cap accel prev x
      let y := o.speed
      (y : Int) = max 0 (max ((prev : Int) - accel) (min ((prev : Int) + accel) (min x cap)))
        ∧ (o.capped = true ↔ (cap : Int) < x)
        ∧ (o.clamped = true ↔ (prev : Int) + accel < min x cap ∨ min x cap < (prev : Int) - accel)
        ∧ y ≤ prev + accel ∧ prev ≤ y + accel ∧ y ≤ max cap prev
        ∧ (0 ≤ x → x ≤ cap → x ≤ prev + accel → prev ≤ x + accel → (y : Int) = x))
    ∧ (∀ s0 st prev k n o : Nat,
      (0 < n → autoCandidate s0 st n n = st)
        ∧ (k ≤ n → s0 ≤ st → (s0 : Int) ≤ autoCandidate s0 st k n ∧ autoCandidate s0 st k n ≤ st
            ∧ (autoCandidate s0 st k n - s0) * n ≤ ((st : Int) - s0) * k
            ∧ (0 < n → ((st : Int) - s0) * k < (autoCandidate s0 st k n + 1 - s0) * n))
        ∧ (k ≤ n → st ≤ s0 → (st : Int) ≤ autoCandidate s0 st k n ∧ autoCandidate s0 st k n ≤ s0
            ∧ ((s0 : Int) - autoCandidate s0 st k n) * n ≤ ((s0 : Int) - st) * k
            ∧ (0 < n → ((s0 : Int) - st) * k < ((s0 : Int) - (autoCandidate s0 st k n - 1)) * n))
        ∧ (prev ≤ st → overrideCandidate prev st o = ((min st (prev + o * 16) : Nat) : Int))
        ∧ (st ≤ prev → overrideCandidate prev st o = ((max st (prev - o * 16) : Nat) : Int)))

/-- The stopper computation of R85 and R86, with its bounds and its anti-windup. -/
def Obligations.StopperComputationFollowsR86 : Prop :=
  ∀ (g : StrandCfg) (v lt l : Nat) (i : Int), -1000 ≤ i → i ≤ 1000 →
    let e : Int := (lt : Int) - l
    let fixed : Int := Int.tdiv ((v : Int) * g.kff) 1024 + Int.tdiv ((g.kp : Int) * e) 64
    let ic : Int := max (-1000) (min 1000 (i + Int.tdiv ((g.ki : Int) * e) 256))
    let held : Prop := (fixed + ic > g.umax ∧ e > 0) ∨ (fixed + ic < 0 ∧ e < 0)
    let o := loopCompute g v lt l i
    (held → o.integrator = i) ∧ (¬ held → o.integrator = ic)
      ∧ (o.stopper : Int) = max 0 (min (g.umax : Int) (fixed + o.integrator))
      ∧ -1000 ≤ o.integrator ∧ o.integrator ≤ 1000 ∧ o.stopper ≤ g.umax

/-- A control period is its strand's own (R7, R8, R10): it completes, and touches nothing but the block of its
strand, that strand's place among holders and in the queue, and ALARM. In every state its level history is then the
last four valid samples in a row, or empty (R75, R76). Outside IDLE a valid sample widens peak and valley, and entry into
IDLE drops them (R77); in IDLE the level target is LNORM (R82). A loop that ends the period CLOSED has the stopper computed
(R85, R86: `loopCompute`) from the level target then held, the level of the sample, and the setpoint output or, in FROZEN,
the measured speed; in HOLD_LAST stopper and integrator stand, and in OFF they are 0 (R87). A period in IDLE or TRIPPED
empties the active-condition set (R153). -/
def Obligations.ControlPeriodIsItsStrandsOwn : Prop :=
  (∀ (n : Strand) (x : Sample) (s : State), s.phase = .running →
      ∃ t, exec (.controlPeriod n x) s = .next t
        ∧ t = { s with strands := t.strands, arb := t.arb, alarm := t.alarm }
        ∧ (∀ m : Strand, m ≠ n → t.strands[m] = s.strands[m])
        ∧ t.arb.spacing = s.arb.spacing
        ∧ t.arb.holders.filter (· != n) = s.arb.holders.filter (· != n)
        ∧ t.arb.queue.filter (·.strand != n) = s.arb.queue.filter (·.strand != n)
        ∧ t.strands[n].force = s.cfg.strands[n]
        ∧ t.strands[n].sampled = some (min x.measured 8000, validLevel x))
    ∧ (∀ (n : Strand) (x : Sample) (s t : State), s.phase = .running → exec (.controlPeriod n x) s = .next t →
      (validLevel x = none → (ctxOf t n).history = [])
        ∧ (∀ l, validLevel x = some l →
            (ctxOf t n).history
              = ((ctxOf s n).history ++ [l]).drop ((ctxOf s n).history.length + 1 - 4))
        ∧ ((ctxOf s n).state ≠ .idle → (ctxOf t n).state ≠ .idle → (ctxOf t n).extremes
            = match validLevel x, (ctxOf s n).extremes with
              | some l, none => some { peak := l, valley := l }
              | some l, some e => some { peak := max e.peak l, valley := min e.valley l }
              | none, e => e)
        ∧ ((ctxOf s n).state ≠ .idle → (ctxOf t n).state = .idle → (ctxOf t n).extremes = none)
        ∧ ((ctxOf s n).state = .idle →
            (ctxOf t n).extremes = (ctxOf s n).extremes ∧ (ctxOf t n).levelTarget = s.cfg.strands[n].lnorm)
        ∧ (stopperLaw s → (ctxOf t n).mode = .closed → ∃ l, validLevel x = some l ∧
            let v := if (ctxOf t n).state = .frozen then min x.measured 8000 else ((ctxOf t n).speed + 8) / 16
            let o := loopCompute s.cfg.strands[n] v (ctxOf t n).levelTarget l (ctxOf s n).integrator
            (ctxOf t n).stopper = o.stopper ∧ (ctxOf t n).integrator = o.integrator)
        ∧ ((ctxOf t n).mode = .holdLast → validLevel x = none ∧
            (ctxOf t n).stopper = (ctxOf s n).stopper ∧ (ctxOf t n).integrator = (ctxOf s n).integrator)
        ∧ ((ctxOf t n).mode = .off → (ctxOf t n).stopper = 0 ∧ (ctxOf t n).integrator = 0)
        ∧ (stopperLaw s → (ctxOf s n).state = .idle ∨ (ctxOf s n).state = .tripped →
            t.strands[n].active = ActiveSet.empty))

/-- The second part of Law 4 (R74) for one control period: unless it ends in TRIPPED, the setpoint moves by at most
AMAX × 16, and not at all in FROZEN (R70). The output driven is the setpoint rounded half up (R2, R56). -/
def Obligations.ControlPeriodBoundsTheSetpoint : Prop :=
  ∀ (n : Strand) (x : Sample) (s t : State), s.phase = .running → stopperLaw s →
    exec (.controlPeriod n x) s = .next t → (ctxOf t n).state ≠ .tripped →
      (ctxOf t n).speed ≤ (ctxOf s n).speed + s.cfg.strands[n].amax * 16
        ∧ (ctxOf s n).speed ≤ (ctxOf t n).speed + s.cfg.strands[n].amax * 16
        ∧ ((ctxOf s n).state = .frozen → (ctxOf t n).speed = (ctxOf s n).speed)
        ∧ t.strands[n].outSpeed = ((ctxOf t n).speed + 8) / 16
        ∧ t.strands[n].outStopper = (ctxOf t n).stopper

/-- A breakout in any state but IDLE and TRIPPED (R150, R153, R29): recorded at its onset with its fixed alarm, and
the strand is TRIPPED in the same period with its outputs forced. -/
def Obligations.BreakoutTripsTheStrand : Prop :=
  ∀ (n : Strand) (x : Sample) (s : State), s.phase = .running → x.breakout = true →
    (ctxOf s n).state ≠ .idle → (ctxOf s n).state ≠ .tripped → s.strands[n].active.breakout = false →
      ∃ t r, exec (.controlPeriod n x) s = .next t
        ∧ (ctxOf t n).state = .tripped ∧ (ctxOf t n).speed = 0 ∧ (ctxOf t n).stopper = 0
        ∧ (ctxOf t n).mode = .off ∧ (ctxOf t n).integrator = 0 ∧ (ctxOf t n).plan = none
        ∧ (ctxOf t n).kind = none ∧ (ctxOf t n).slot = none ∧ (ctxOf t n).resume = none
        ∧ t.strands[n].outSpeed = 0 ∧ t.strands[n].outStopper = 0 ∧ t.strands[n].outTrip = true
        ∧ t.strands[n].active = { s.strands[n].active with breakout := true }
        ∧ t.strands[n].log = logRecord s.strands[n].log r .breakout true ∧ t.alarm = true
        ∧ r.kind = .breakout ∧ r.time = s.store.time ∧ r.state = (ctxOf s n).state
        ∧ r.restart = (ctxOf s n).kind ∧ r.plan = (ctxOf s n).plan
        ∧ r.slot = (ctxOf s n).slot.map SlotRun.index ∧ r.speedOut = ((ctxOf s n).speed + 8) / 16
        ∧ r.measured = min x.measured 8000 ∧ r.level = validLevel x ∧ r.stopper = (ctxOf s n).stopper
        ∧ r.mark = true

/-- A gauge fault with neither a breakout nor a lost interlock (R75, R81, R87, R90, R153). At its onset it is recorded as
the strand stood, in every state but IDLE and TRIPPED; HOLD, its default, holds the strand in FILL, DWELL, WAIT_PERMIT and
RAMP as HLD would, with the loop in HOLD_LAST and stopper and integrator standing; TRIP trips it in any state but IDLE and
TRIPPED. Under NOTE, and under HOLD in CAST, HELD, CHANGE, FROZEN and STOPPING (R148), it is recorded at its onset and neither
holds nor trips the strand: a strand held or tripped in that period has another deviation of the period in its log, whose
action did it. In no state is it recorded again while it lasts. -/
def Obligations.GaugeFaultIsRecordedAtOnset : Prop :=
  (∀ (n : Strand) (x : Sample) (s : State), s.phase = .running → (ctxOf s n).state = .held →
    x.breakout = false → x.ready = true → validLevel x = none → actionOf s.cfg .gaugeFault ≠ .trip →
    (ctxOf s n).mode ≠ .off →
      ∃ t, exec (.controlPeriod n x) s = .next t
        ∧ (ctxOf t n).state = .held ∧ (ctxOf t n).holdReturn = (ctxOf s n).holdReturn
        ∧ (ctxOf t n).mode = .holdLast ∧ (ctxOf t n).stopper = (ctxOf s n).stopper
        ∧ (ctxOf t n).integrator = (ctxOf s n).integrator ∧ t.strands[n].active.gaugeFault = true
        ∧ (s.strands[n].active.gaugeFault = true → t.strands[n].log = s.strands[n].log)
        ∧ (s.strands[n].active.gaugeFault = false →
            ∃ r, r.kind = .gaugeFault ∧ r.level = none
              ∧ t.strands[n].log = logRecord s.strands[n].log r .gaugeFault (alarmOf s.cfg .gaugeFault)))
    ∧ (∀ (n : Strand) (x : Sample) (s : State), s.phase = .running → x.breakout = false → x.ready = true →
      validLevel x = none → (ctxOf s n).state ≠ .idle → (ctxOf s n).state ≠ .tripped →
        let c := ctxOf s n
        let b := s.strands[n]
        let alarm : Bool := s.alarm || alarmOf s.cfg .gaugeFault
        let entered : Log StrandRec :=
          logRecord b.log (periodRecord s n x .gaugeFault) .gaugeFault (alarmOf s.cfg .gaugeFault)
        ∃ t, exec (.controlPeriod n x) s = .next t
          ∧ (b.active.gaugeFault = false → actionOf s.cfg .gaugeFault = .trip →
              (ctxOf t n).state = .tripped ∧ t.strands[n].outTrip = true ∧ t.strands[n].outStopper = 0
                ∧ t.strands[n].log = entered ∧ t.alarm = alarm)
          ∧ (b.active.gaugeFault = false → actionOf s.cfg .gaugeFault = .hold → ∀ g, holdState g = c.state →
              t = { s with
                  strands := t.strands, alarm := alarm
                  arb := if g = .waitPermit then { s.arb with queue := s.arb.queue.filter (·.strand != n) }
                         else s.arb }
                ∧ (ctxOf t n).state = .held ∧ (ctxOf t n).holdReturn = some g
                ∧ (ctxOf t n).mode = (if c.mode = .off then .off else .holdLast)
                ∧ (c.mode ≠ .off → (ctxOf t n).stopper = c.stopper ∧ (ctxOf t n).integrator = c.integrator)
                ∧ (ctxOf t n).timer = c.timer ∧ (ctxOf t n).slot = c.slot ∧ (ctxOf t n).permit = c.permit
                ∧ t.strands[n].active.gaugeFault = true ∧ t.strands[n].log = entered)
          ∧ (b.active.gaugeFault = false →
              actionOf s.cfg .gaugeFault = .note
                ∨ (actionOf s.cfg .gaugeFault = .hold ∧ ∀ g, holdState g ≠ c.state) →
              let other (a : Action) : Prop := ∃ e ∈ t.strands[n].log.next, actionOf s.cfg e.kind = a
                ∧ e.kind ∈ [.fillTimeout, .permitWait, .speedLimit, .rateClamp, .rampShort, .driveLag]
              t.strands[n].active.gaugeFault = true ∧ t.strands[n].log.first = entered.first
                ∧ (∀ e ∈ entered.next, ∃ e' ∈ t.strands[n].log.next, e'.kind = e.kind ∧ (e.mark = true → e'.mark = true))
                ∧ (alarmOf s.cfg .gaugeFault = true → t.alarm = true)
                ∧ ((ctxOf t n).state = .tripped → other .trip)
                ∧ ((ctxOf t n).state = .held → c.state ≠ .held → other .hold)
                ∧ (c.state = .held ∨ c.state = .change ∨ c.state = .frozen ∨ c.state = .stopping →
                    t.strands[n].log = entered ∧ t.alarm = alarm ∧ (ctxOf t n).state ≠ .tripped
                      ∧ ((ctxOf t n).state = .held ↔ c.state = .held)))
          ∧ (b.active.gaugeFault = true →
              (∀ r ∈ t.strands[n].log.first, r.kind = .gaugeFault → b.log.first = some r)
                ∧ ∀ e ∈ t.strands[n].log.next, e.kind = .gaugeFault → e ∈ b.log.next))

/-- FILL on a sample stage 2 finds nothing on, from an empty mould too (R13, R15, R16, R82): below the fill level the timer
advances; at or above it the strand enters DWELL, or WAIT_PERMIT when the dwell is 0, where it is enqueued in its class.
Nothing is recorded. -/
def Obligations.FillEndsAtTheFillLevel : Prop :=
  ∀ (n : Strand) (x : Sample) (l : Nat) (s : State) (p : PlanNo) (rev : Nat) (h : Header),
    s.phase = .running → soundSample s n x l → (ctxOf s n).state = .fill →
    (ctxOf s n).plan = some (.plan p rev) → s.plans[p].header = some h →
      ∃ t, exec (.controlPeriod n x) s = .next t
        ∧ (l < h.fill → (ctxOf s n).timeoutNoted = false →
            (ctxOf s n).timer + 1 < s.cfg.strands[n].fillt * 2 →
            (ctxOf t n).state = .fill ∧ (ctxOf t n).timer = (ctxOf s n).timer + 1
              ∧ (ctxOf t n).timeoutNoted = false ∧ t.strands[n].log = s.strands[n].log
              ∧ t = { s with strands := t.strands })
        ∧ (l < h.fill → (ctxOf s n).timeoutNoted = true →
            (ctxOf t n).state = .fill ∧ (ctxOf t n).timer = (ctxOf s n).timer
              ∧ t.strands[n].log = s.strands[n].log ∧ t = { s with strands := t.strands })
        ∧ (h.fill ≤ l → 0 < h.dwell →
            (ctxOf t n).state = .dwell ∧ (ctxOf t n).timer = 0
              ∧ (ctxOf t n).levelTarget = (ctxOf s n).levelTarget
              ∧ t.strands[n].log = s.strands[n].log ∧ t = { s with strands := t.strands })
        ∧ (h.fill ≤ l → h.dwell = 0 →
            (ctxOf t n).state = .waitPermit ∧ (ctxOf t n).timer = 0 ∧ (ctxOf t n).timeoutNoted = false
              ∧ (∀ y, s.plans[p].slots[0] = some y → (ctxOf t n).levelTarget = y.level)
              ∧ t.strands[n].log = s.strands[n].log
              ∧ t = { s with
                  strands := t.strands
                  arb := { s.arb with
                    queue := place { strand := n, cls := classOf (ctxOf s n).kind, time := s.store.time }
                      s.arb.queue } })

/-- One AUTO step within the limits, on a sample stage 2 finds nothing on (R18, R19, R58, R59, R61, R63, R64): k advances
and the setpoint is the point on the line, with no record. At k = N the next slot starts from there, toward its speed or,
for RESUME, toward the resume speed or the setpoint where there is none; or the last slot ends in CAST, which keeps ST and
gives the permit back. -/
def Obligations.RampStepFollowsTheLine : Prop :=
  ∀ (n : Strand) (x : Sample) (l : Nat) (s : State) (p : PlanNo) (rev : Nat) (h : Header) (r : SlotRun) (st : Nat),
    s.phase = .running → soundSample s n x l → (ctxOf s n).state = .ramp →
    (ctxOf s n).plan = some (.plan p rev) → s.plans[p].header = some h →
    (ctxOf s n).slot = some r → (ctxOf s n).target = some st → r.step = .auto →
    r.k < r.n → st ≤ s.cfg.strands[n].vmax * 16 → r.s0 ≤ s.cfg.strands[n].vmax * 16 →
    autoCandidate r.s0 st (r.k + 1) r.n ≤ (ctxOf s n).speed + s.cfg.strands[n].amax * 16 →
    ((ctxOf s n).speed : Int) ≤ autoCandidate r.s0 st (r.k + 1) r.n + s.cfg.strands[n].amax * 16 →
      ∃ t, exec (.controlPeriod n x) s = .next t
        ∧ ((ctxOf t n).speed : Int) = autoCandidate r.s0 st (r.k + 1) r.n
        ∧ (r.k + 1 < r.n →
            (ctxOf t n).state = .ramp ∧ (ctxOf t n).slot = some { r with k := r.k + 1 }
              ∧ (ctxOf t n).target = some st ∧ t.strands[n].log = s.strands[n].log
              ∧ t = { s with strands := t.strands })
        ∧ (r.k + 1 = r.n → r.index < h.count → ∀ (y : Slot) (v : Nat),
            s.plans[p].slots[r.index]? = some (some y) →
            (v = match y.target with
              | .speed w => w * 16
              | .resume => (ctxOf s n).resume.getD st) →
            v ≤ s.cfg.strands[n].vmax * 16 →
            (ctxOf t n).state = .ramp ∧ (ctxOf t n).levelTarget = y.level
              ∧ (ctxOf t n).slot
                  = some { index := r.index + 1, k := 0, s0 := st, n := 2 * y.duration, step := y.step }
              ∧ (ctxOf t n).target = some v ∧ (ctxOf t n).rateNoted = false
              ∧ (ctxOf t n).limitNoted = false ∧ t.strands[n].log = s.strands[n].log
              ∧ t = { s with strands := t.strands })
        ∧ (r.k + 1 = r.n → h.count ≤ r.index →
            (ctxOf t n).state = .cast ∧ (ctxOf t n).speed = st ∧ (ctxOf t n).target = some st
              ∧ (ctxOf t n).kind = none ∧ (ctxOf t n).plan = none ∧ (ctxOf t n).resume = none
              ∧ (ctxOf t n).slot = none ∧ (ctxOf t n).rateNoted = false ∧ (ctxOf t n).limitNoted = false
              ∧ (ctxOf t n).permit = false
              ∧ (∀ y, s.plans[p].slots[h.count - 1]? = some (some y) → (ctxOf t n).levelTarget = y.level)
              ∧ t.strands[n].log = s.strands[n].log
              ∧ t = { s with
                  strands := t.strands
                  arb := { s.arb with holders := s.arb.holders.filter (· != n) } })

/-- STOPPING on a sample stage 2 finds nothing on, whatever LLOW, LAGTOL and STRAND_READY say (R28, R69): the setpoint
falls by at most A, and once it is 0 with the drive below 10 mm/min the strand enters IDLE. -/
def Obligations.StoppingRunsDownToIdle : Prop :=
  ∀ (n : Strand) (x : Sample) (l : Nat) (s : State), s.phase = .running → soundSample s n x l →
    (ctxOf s n).state = .stopping →
      ∃ t, exec (.controlPeriod n x) s = .next t
        ∧ (ctxOf t n).speed = (ctxOf s n).speed - s.cfg.strands[n].amax * 16
        ∧ ((ctxOf t n).speed = 0 → x.measured < 10 → (ctxOf t n).state = .idle ∧ (ctxOf t n).resume = none
            ∧ (ctxOf t n).extremes = none ∧ (ctxOf t n).stopper = 0)
        ∧ (¬ ((ctxOf t n).speed = 0 ∧ x.measured < 10) → (ctxOf t n).state = .stopping
            ∧ (ctxOf t n).resume = (ctxOf s n).resume)
        ∧ t.strands[n].log = s.strands[n].log ∧ t = { s with strands := t.strands }

/-- The timed phases on a sample stage 2 finds nothing on. At its limit FILL below the fill level raises FILL_TIMEOUT once
(R14) and WAIT_PERMIT raises PERMIT_WAIT once (R16, R108): the record is the strand's as it stood, and the action steered
for the kind leaves it where it is, holds it or trips it, WAIT_PERMIT being left with a dequeue (R98). Otherwise the timer
of WAIT_PERMIT advances, or stands once noted. DWELL counts to the plan's dwell × 2 and then enters WAIT_PERMIT (R15). -/
def Obligations.TimedPhasesEndAtTheirLimits : Prop :=
  ∀ (n : Strand) (x : Sample) (l : Nat) (s : State), s.phase = .running → soundSample s n x l →
    let c := ctxOf s n
    let left : Arbiter := { s.arb with queue := s.arb.queue.filter (·.strand != n) }
    let raises (k : Kind) (g : HoldReturn) : Prop :=
      ∃ t, exec (.controlPeriod n x) s = .next t
        ∧ t = { s with
            strands := t.strands, alarm := s.alarm || alarmOf s.cfg k
            arb := if g = .waitPermit ∧ (actionOf s.cfg k = .hold ∨ actionOf s.cfg k = .trip) then left else s.arb }
        ∧ t.strands[n].log = logRecord s.strands[n].log (periodRecord s n x k) k (alarmOf s.cfg k)
        ∧ (actionOf s.cfg k = .note →
            (ctxOf t n).state = c.state ∧ (ctxOf t n).timer = c.timer + 1 ∧ (ctxOf t n).timeoutNoted = true)
        ∧ (actionOf s.cfg k = .hold →
            (ctxOf t n).state = .held ∧ (ctxOf t n).holdReturn = some g ∧ (ctxOf t n).timer = c.timer + 1
              ∧ (ctxOf t n).timeoutNoted = true)
        ∧ (actionOf s.cfg k = .trip → (ctxOf t n).state = .tripped ∧ t.strands[n].outTrip = true)
    (c.state = .waitPermit → c.timeoutNoted = false → s.cfg.strands[n].pwait * 2 ≤ c.timer + 1 →
        raises .permitWait .waitPermit)
      ∧ (c.state = .waitPermit → c.timeoutNoted = true ∨ c.timer + 1 < s.cfg.strands[n].pwait * 2 →
        ∃ t, exec (.controlPeriod n x) s = .next t ∧ t = { s with strands := t.strands }
          ∧ (ctxOf t n).state = .waitPermit ∧ (ctxOf t n).timeoutNoted = c.timeoutNoted
          ∧ (ctxOf t n).timer = (if c.timeoutNoted then c.timer else c.timer + 1)
          ∧ t.strands[n].log = s.strands[n].log)
      ∧ ∀ (p : PlanNo) (rev : Nat) (h : Header), c.plan = some (.plan p rev) → s.plans[p].header = some h →
        (c.state = .fill → l < h.fill → c.timeoutNoted = false → s.cfg.strands[n].fillt * 2 ≤ c.timer + 1 →
            raises .fillTimeout .fill)
          ∧ (c.state = .dwell → c.timer + 1 < h.dwell * 2 →
            ∃ t, exec (.controlPeriod n x) s = .next t ∧ t = { s with strands := t.strands }
              ∧ (ctxOf t n).state = .dwell ∧ (ctxOf t n).timer = c.timer + 1
              ∧ t.strands[n].log = s.strands[n].log)
          ∧ (c.state = .dwell → h.dwell * 2 ≤ c.timer + 1 →
            ∃ t, exec (.controlPeriod n x) s = .next t
              ∧ t = { s with
                  strands := t.strands
                  arb := { s.arb with
                    queue := place { strand := n, cls := classOf c.kind, time := s.store.time } s.arb.queue } }
              ∧ (ctxOf t n).state = .waitPermit ∧ (ctxOf t n).timer = 0 ∧ (ctxOf t n).timeoutNoted = false
              ∧ (∀ y, s.plans[p].slots[0] = some y → (ctxOf t n).levelTarget = y.level)
              ∧ t.strands[n].log = s.strands[n].log)

/-- CHANGE (R68, R117): on a sample stage 2 finds nothing on, a level below LFLOOR sets floor reached, which stays; the
setpoint goes toward CREEP, or from the same period on toward 0, by the common steps. An invalid sample leaves floor
reached as it is. -/
def Obligations.ChangeCreepsToTheFloor : Prop :=
  ∀ (n : Strand) (x : Sample) (s : State), s.phase = .running → (ctxOf s n).state = .change →
    let toward (floor : Bool) : Int := limitedSpeed s n (if floor then 0 else (s.cfg.strands[n].creep * 16 : Nat))
    (∀ l, soundSample s n x l →
        ∃ t, exec (.controlPeriod n x) s = .next t ∧ t = { s with strands := t.strands }
          ∧ (ctxOf t n).state = .change
          ∧ (ctxOf t n).floorReached = ((ctxOf s n).floorReached || decide (l < s.cfg.strands[n].lfloor))
          ∧ ((ctxOf t n).speed : Int) = toward (ctxOf t n).floorReached
          ∧ (ctxOf t n).resume = (ctxOf s n).resume ∧ (ctxOf t n).timer = (ctxOf s n).timer
          ∧ t.strands[n].log = s.strands[n].log)
      ∧ (x.breakout = false → x.ready = true → validLevel x = none → actionOf s.cfg .gaugeFault ≠ .trip →
        ∃ t, exec (.controlPeriod n x) s = .next t ∧ (ctxOf t n).state = .change
          ∧ (ctxOf t n).floorReached = (ctxOf s n).floorReached
          ∧ ((ctxOf t n).speed : Int) = toward (ctxOf s n).floorReached)

/-- A sample on which exactly one of INTERLOCK_LOST (R151), LEVEL_HIGH (R91), BREAKOUT_SUSPECT (R92, assumption log 28),
LEVEL_LOW (R93) and DRIVE_LAG (R152, assumption log 17) is found: a condition is recorded at its onset only (R153), the
event kind each time, as the strand stood; then its action is applied (R148). TRIP trips the strand; HOLD holds it in the
four states that may be held; NOTE, and HOLD in the others, neither trips nor holds it; and where a strand is HELD, FROZEN
or in CHANGE the rest of the period adds no record. A condition already in the set is in no state recorded again, and no
action is applied. Unless the strand is tripped its active-condition set holds the condition found and no other. With them
the count a lag makes (R152), and the count that says when the history is refilled (R92, assumption log 28). -/
def Obligations.ChecksRecordAndAct : Prop :=
  (∀ (n : Strand) (x : Sample) (l : Nat) (s : State) (k : Kind), s.phase = .running → validSample x l →
      k ∈ [Kind.interlockLost, .levelHigh, .breakoutSuspect, .levelLow, .driveLag] →
      (findsInterlock s n x ↔ k = .interlockLost) → (findsHigh s n l ↔ k = .levelHigh) →
      (findsSuspect s n l ↔ k = .breakoutSuspect) → (findsLow s n l ↔ k = .levelLow) →
      (findsLag s n x ↔ k = .driveLag) → (ctxOf s n).state ≠ .idle → (ctxOf s n).state ≠ .tripped →
        let c := ctxOf s n
        let b := s.strands[n]
        let onset : Prop := ∀ d : Cond, condKind d = k → isActive b.active d = false
        let quietAfter : Prop := c.state = .held ∨ c.state = .frozen ∨ c.state = .change
        let entered : Log StrandRec := logRecord b.log (periodRecord s n x k) k (alarmOf s.cfg k)
        ∃ t, exec (.controlPeriod n x) s = .next t
          ∧ (onset →
              t.strands[n].log.first = entered.first
              ∧ (b.log.first ≠ none →
                  ∃ e ∈ t.strands[n].log.next, e.kind = k ∧ (alarmOf s.cfg k = true → e.mark = true))
              ∧ (alarmOf s.cfg k = true → t.alarm = true)
              ∧ (actionOf s.cfg k = .trip →
                  (ctxOf t n).state = .tripped ∧ t.strands[n].outTrip = true ∧ t.strands[n].log = entered)
              ∧ (actionOf s.cfg k = .hold → ∀ g, holdState g = c.state →
                  (ctxOf t n).state = .held ∧ (ctxOf t n).holdReturn = some g ∧ (ctxOf t n).lag = 0
                    ∧ (ctxOf t n).timer = c.timer ∧ (ctxOf t n).slot = c.slot ∧ (ctxOf t n).permit = c.permit
                    ∧ t.strands[n].log = entered)
              ∧ (actionOf s.cfg k = .hold ∨ actionOf s.cfg k = .note → quietAfter →
                  (ctxOf t n).state = c.state ∧ t.strands[n].log = entered)
              ∧ (actionOf s.cfg k = .note ∨ (actionOf s.cfg k = .hold ∧ ∀ g, holdState g ≠ c.state) →
                  (∀ j ∈ [Kind.fillTimeout, .permitWait, .speedLimit, .rateClamp, .rampShort],
                    actionOf s.cfg j = .note) →
                  (ctxOf t n).state ≠ .tripped ∧ ((ctxOf t n).state = .held ↔ c.state = .held)))
          ∧ (¬ onset →
              (∀ r ∈ t.strands[n].log.first, r.kind = k → b.log.first = some r)
              ∧ (∀ e ∈ t.strands[n].log.next, e.kind = k → e ∈ b.log.next)
              ∧ (quietAfter → (ctxOf t n).state = c.state ∧ t.strands[n].log = b.log)
              ∧ ((∀ j ∈ [Kind.fillTimeout, .permitWait, .speedLimit, .rateClamp, .rampShort],
                    actionOf s.cfg j = .note) →
                  (ctxOf t n).state ≠ .tripped ∧ ((ctxOf t n).state = .held ↔ c.state = .held)))
          ∧ ((ctxOf t n).state ≠ .tripped →
              ∀ d : Cond, isActive t.strands[n].active d = decide (condKind d = k)))
    ∧ (∀ (n : Strand) (x : Sample) (s t : State), s.phase = .running → exec (.controlPeriod n x) s = .next t →
      let limit := s.cfg.strands[n].lagt * 2
      ((ctxOf s n).state = .ramp ∨ (ctxOf s n).state = .cast →
          (ctxOf t n).state = .ramp ∨ (ctxOf t n).state = .cast →
            (ctxOf t n).lag
              = if lags s n x then
                  (if (ctxOf s n).lag < limit then (ctxOf s n).lag + 1 else (ctxOf s n).lag)
                else 0)
        ∧ (¬ rampOrCast s n → (ctxOf s n).state ≠ .idle → (ctxOf s n).state ≠ .tripped → (ctxOf t n).lag = 0)
        ∧ t.strands[n].refilled
            = if (validLevel x).isSome = true ∧ (ctxOf s n).mode ≠ .off then min (s.strands[n].refilled + 1) 4
              else s.strands[n].refilled)

/-- The deviations of stage 4 (R9, R63 to R66) on a sample stage 2 finds nothing on, with the candidate of R61, R62 or R66
and the common steps of R57: SPEED_LIMIT and RATE_CLAMP where their markers are no, then RAMP_SHORT where a slot ends off
its target, each recorded with the new setpoint; and where the slot that starts then has a target above the cap, whether a
speed or the resume speed (R58), SPEED_LIMIT once more, recorded in the new slot, whose target is the cap (R60). Their
actions are applied to what the stage has left: a TRIP trips the strand, and a HOLD holds it with k already counted, in the
next slot where one has started, and not at all in CAST. -/
def Obligations.RampDeviationsActAfterTheStage : Prop :=
  ∀ (n : Strand) (x : Sample) (l : Nat) (s : State) (st : Nat), s.phase = .running → soundSample s n x l →
    (ctxOf s n).target = some st →
      let c := ctxOf s n
      let cap : Nat := s.cfg.strands[n].vmax * 16
      let accel : Int := (s.cfg.strands[n].amax * 16 : Nat)
      let capped (y : Int) : Bool := decide ((cap : Int) < y)
      let clamped (y : Int) : Bool := decide (c.speed + accel < min y cap ∨ min y cap < c.speed - accel)
      let reports (y : Int) : List Kind :=
        (if capped y ∧ c.limitNoted = false then [.speedLimit] else [])
          ++ (if clamped y ∧ c.rateNoted = false then [.rateClamp] else [])
      let record (y : Int) (k : Kind) : StrandRec :=
        { periodRecord s n x k with speedOut := ((limitedSpeed s n y).toNat + 8) / 16 }
      let trips (ks : List Kind) : Bool := ks.any fun k => actionOf s.cfg k = .trip
      let holds (ks : List Kind) : Bool := ks.any fun k => actionOf s.cfg k = .hold
      let released : Arbiter := { s.arb with holders := s.arb.holders.filter (· != n) }
      let answers (y : Int) (records : List StrandRec) (arb : Arbiter) (ok : State → Prop) : Prop :=
        ∃ t, exec (.controlPeriod n x) s = .next t
          ∧ t = { s with strands := t.strands, alarm := s.alarm || records.any StrandRec.mark, arb := arb }
          ∧ t.strands[n].log = records.foldl (fun g q => logRecord g q q.kind q.mark) s.strands[n].log
          ∧ (trips (records.map StrandRec.kind) = true →
              (ctxOf t n).state = .tripped ∧ t.strands[n].outTrip = true)
          ∧ (trips (records.map StrandRec.kind) = false → ((ctxOf t n).speed : Int) = limitedSpeed s n y ∧ ok t)
      (c.state = .cast → answers st ((reports st).map (record st)) s.arb fun t =>
          (ctxOf t n).state = .cast ∧ (ctxOf t n).target = some st
            ∧ (ctxOf t n).limitNoted = (c.limitNoted || capped st)
            ∧ (ctxOf t n).rateNoted = (c.rateNoted || clamped st))
        ∧ (c.state = .ramp → ∀ (p : PlanNo) (rev : Nat) (h : Header) (r : SlotRun), c.plan = some (.plan p rev) →
            s.plans[p].header = some h → c.slot = some r → r.k < r.n →
              let y : Int := match r.step with
                | .auto => autoCandidate r.s0 st (r.k + 1) r.n
                | .override o => overrideCandidate c.speed st o
              let ks : List Kind := reports y ++ if limitedSpeed s n y = st then [] else [.rampShort]
              let stays (t : State) (ks : List Kind) : Prop :=
                (ctxOf t n).state = (if holds ks then .held else .ramp)
                  ∧ (holds ks = true → (ctxOf t n).holdReturn = some .ramp)
              (r.k + 1 < r.n →
                  answers y ((reports y).map (record y)) (if trips (reports y) then released else s.arb) fun t =>
                    stays t (reports y) ∧ (ctxOf t n).slot = some { r with k := r.k + 1 }
                      ∧ (ctxOf t n).target = some st
                      ∧ (ctxOf t n).limitNoted = (c.limitNoted || capped y)
                      ∧ (ctxOf t n).rateNoted = (c.rateNoted || clamped y))
                ∧ (r.k + 1 = r.n → r.index < h.count → ∀ z : Slot,
                    s.plans[p].slots[r.index]? = some (some z) →
                    let sought : Nat := match z.target with
                      | .speed v => v * 16
                      | .resume => c.resume.getD (limitedSpeed s n y).toNat
                    let above : Bool := decide (cap < sought)
                    let all : List Kind := ks ++ if above then [.speedLimit] else []
                    answers y
                      (ks.map (record y)
                        ++ if above then [{ record y .speedLimit with slot := some (r.index + 1) }] else [])
                      (if trips all then released else s.arb) fun t =>
                      stays t all ∧ (ctxOf t n).target = some (min sought cap) ∧ (ctxOf t n).levelTarget = z.level
                        ∧ (ctxOf t n).limitNoted = above ∧ (ctxOf t n).rateNoted = false
                        ∧ (ctxOf t n).slot = some
                            { index := r.index + 1, k := 0, s0 := (limitedSpeed s n y).toNat, n := 2 * z.duration,
                              step := z.step })
                ∧ (r.k + 1 = r.n → h.count ≤ r.index →
                    answers y (ks.map (record y)) released fun t =>
                      (ctxOf t n).state = .cast ∧ (ctxOf t n).target = some st ∧ (ctxOf t n).slot = none
                        ∧ (ctxOf t n).limitNoted = false ∧ (ctxOf t n).rateNoted = false))

/-- A restart under plan F (R53, R54, R82, R83), on samples stage 2 finds nothing on. FILL ends at LNORM, straight in
WAIT_PERMIT; in FILL, WAIT_PERMIT, RAMP and HELD the level target is the LNORM in force in the period; a grant starts its one
slot toward the resume speed, or the setpoint where there is none, in 600 periods (R58, R59; above the cap, or under GAP 0,
see `GrantStartsTheHeadOfTheQueue`); and the end of that slot
enters CAST at LNORM with the permit given back (R19). -/
def Obligations.RestartsUnderPlanF : Prop :=
  (∀ (n : Strand) (x : Sample) (l : Nat) (s : State), s.phase = .running → soundSample s n x l →
      (ctxOf s n).plan = some .fallback →
        let c := ctxOf s n
        let lnorm := s.cfg.strands[n].lnorm
        let goesOn (state : StrandState) : Prop :=
          ∃ t, exec (.controlPeriod n x) s = .next t ∧ t = { s with strands := t.strands }
            ∧ (ctxOf t n).state = state ∧ (ctxOf t n).plan = some .fallback ∧ (ctxOf t n).levelTarget = lnorm
            ∧ t.strands[n].log = s.strands[n].log
        (c.state = .fill → l < lnorm → c.timeoutNoted = true ∨ c.timer + 1 < s.cfg.strands[n].fillt * 2 →
            goesOn .fill)
          ∧ (c.state = .fill → lnorm ≤ l →
            ∃ t, exec (.controlPeriod n x) s = .next t
              ∧ t = { s with
                  strands := t.strands
                  arb := { s.arb with
                    queue := place { strand := n, cls := classOf c.kind, time := s.store.time } s.arb.queue } }
              ∧ (ctxOf t n).state = .waitPermit ∧ (ctxOf t n).timer = 0 ∧ (ctxOf t n).timeoutNoted = false
              ∧ (ctxOf t n).plan = some .fallback ∧ (ctxOf t n).levelTarget = lnorm
              ∧ t.strands[n].log = s.strands[n].log)
          ∧ (c.state = .waitPermit → c.timeoutNoted = true ∨ c.timer + 1 < s.cfg.strands[n].pwait * 2 →
            goesOn .waitPermit)
          ∧ (c.state = .held → c.holdReturn ≠ none → goesOn .held)
          ∧ (c.state = .ramp → ∀ (r : SlotRun) (st : Nat), c.slot = some r → c.target = some st → r.step = .auto →
              r.k < r.n → 1 ≤ r.index → autoCandidate r.s0 st (r.k + 1) r.n ≤ (s.cfg.strands[n].vmax * 16 : Nat) →
              limitedSpeed s n (autoCandidate r.s0 st (r.k + 1) r.n) = autoCandidate r.s0 st (r.k + 1) r.n →
                (r.k + 1 < r.n → goesOn .ramp)
                ∧ (r.k + 1 = r.n →
                  ∃ t, exec (.controlPeriod n x) s = .next t
                    ∧ t = { s with
                        strands := t.strands
                        arb := { s.arb with holders := s.arb.holders.filter (· != n) } }
                    ∧ (ctxOf t n).state = .cast ∧ (ctxOf t n).speed = st ∧ (ctxOf t n).target = some st
                    ∧ (ctxOf t n).plan = none ∧ (ctxOf t n).levelTarget = lnorm
                    ∧ t.strands[n].log = s.strands[n].log)))
    ∧ (∀ (s : State) (e : QEntry) (rest : List QEntry), s.phase = .running →
      s.mon.state = .normal → s.arb.holders.length < s.cfg.plant.pmax → s.arb.spacing = none →
      s.arb.queue = e :: rest → 0 < s.cfg.plant.gap → (ctxOf s e.strand).state = .waitPermit →
      (ctxOf s e.strand).plan = some .fallback →
      (ctxOf s e.strand).resume.getD (ctxOf s e.strand).speed ≤ s.strands[e.strand].force.vmax * 16 →
        exec .grantEvaluation s = .next { s with
          arb := { holders := addHolder e.strand s.arb.holders, queue := rest,
                   spacing := some (s.cfg.plant.gap * 100) }
          strands := s.strands.set e.strand { s.strands[e.strand] with
            ctx := { ctxOf s e.strand with
              state := .ramp, permit := true, levelTarget := s.strands[e.strand].force.lnorm, rateNoted := false
              limitNoted := false
              slot := some { index := 1, k := 0, s0 := (ctxOf s e.strand).speed, n := 600, step := .auto }
              target := some ((ctxOf s e.strand).resume.getD (ctxOf s e.strand).speed) } } })

/-! ## Permits -/

/-- A grant evaluation (R101; its row is assumption log 10) completes, ends with one of the four conditions of R100
failing, and takes only from the queue. -/
def Obligations.GrantEvaluationEndsWithAConditionFailing : Prop :=
  ∀ s : State, s.phase = .running →
    ∃ t, exec .grantEvaluation s = .next t
      ∧ t = { s with strands := t.strands, arb := t.arb, alarm := t.alarm }
      ∧ t.arb.queue <:+ s.arb.queue
      ∧ ¬ (t.mon.state = .normal ∧ t.arb.holders.length < t.cfg.plant.pmax ∧ t.arb.spacing = none
            ∧ t.arb.queue ≠ [])
      ∧ (∀ m : Strand, (∀ e ∈ s.arb.queue, e.strand ≠ m) → t.strands[m] = s.strands[m])

/-- One grant (R17, R59, R100, R101, R102), under a plan 1 to 12 or plan F (R53, R54). The head leaves the queue and
becomes a holder, and the strand stands in RAMP with its permit and slot 1 started. Under a GAP above 0 the spacing timer
starts and the evaluation ends; under GAP 0 it goes on from there as an evaluation of its own would. A slot 1 target
within the cap raises nothing. One above it, the resume speed among them, is capped and raises SPEED_LIMIT, whose action
is applied once the grant is complete (R60): NOTE leaves the strand in RAMP, HOLD takes it into HELD with hold_return
RAMP and its permit kept, and TRIP into TRIPPED with its permit given back (R29, R99), each before a single ramp step.
That entry into TRIPPED makes floor reached no, as R29 says of every marker, is the model's reading (assumption log 33). -/
def Obligations.GrantStartsTheHeadOfTheQueue : Prop :=
  ∀ (s : State) (e : QEntry) (rest : List QEntry) (y : Slot), s.phase = .running →
    s.mon.state = .normal → s.arb.holders.length < s.cfg.plant.pmax → s.arb.spacing = none →
    s.arb.queue = e :: rest → (ctxOf s e.strand).state = .waitPermit →
    let b := s.strands[e.strand]
    let c := b.ctx
    (∃ p rev, c.plan = some (.plan p rev) ∧ s.plans[p].slots[0] = some y)
      ∨ (c.plan = some .fallback
          ∧ y = { target := .resume, duration := 300, level := b.force.lnorm, step := .auto }) →
      let cap := b.force.vmax * 16
      let raw : Nat := match y.target with
        | .speed v => v * 16
        | .resume => c.resume.getD c.speed
      let steered (a : Action) : Prop := cap < raw ∧ actionOf s.cfg .speedLimit = a
      let started : Ctx :=
        { c with
          state := .ramp, permit := true, levelTarget := y.level, rateNoted := false, limitNoted := decide (cap < raw)
          slot := some { index := 1, k := 0, s0 := c.speed, n := 2 * y.duration, step := y.step }
          target := some (min raw cap) }
      let entered : Log StrandRec :=
        logRecord b.log
          { kind := .speedLimit, time := s.store.time, state := .ramp, restart := c.kind, plan := c.plan
            slot := some 1, speedOut := (c.speed + 8) / 16, measured := (observed s e.strand).1
            level := (observed s e.strand).2, stopper := c.stopper, mark := alarmOf s.cfg .speedLimit }
          .speedLimit (alarmOf s.cfg .speedLimit)
      ∃ u,
        (0 < s.cfg.plant.gap → exec .grantEvaluation s = .next u)
          ∧ (s.cfg.plant.gap = 0 → exec .grantEvaluation s = exec .grantEvaluation u)
          ∧ u = { s with
              strands := u.strands
              arb := { holders := u.arb.holders, queue := rest,
                       spacing := if 0 < s.cfg.plant.gap then some (s.cfg.plant.gap * 100) else none }
              alarm := s.alarm || (decide (cap < raw) && alarmOf s.cfg .speedLimit) }
          ∧ (∀ m : Strand, m ≠ e.strand → u.strands[m] = s.strands[m])
          ∧ (¬ steered .trip → u.arb.holders = addHolder e.strand s.arb.holders)
          ∧ (raw ≤ cap → u.strands[e.strand] = { b with ctx := started })
          ∧ (steered .note → u.strands[e.strand] = { b with ctx := started, log := entered })
          ∧ (steered .hold → u.strands[e.strand] = { b with
              ctx := { started with state := .held, holdReturn := some .ramp, lag := 0 }, log := entered })
          ∧ (steered .trip → u.arb.holders = s.arb.holders.filter (· != e.strand)
              ∧ u.strands[e.strand] = { b with
                  outSpeed := 0, outStopper := 0, outTrip := true, log := entered
                  ctx := { started with
                    state := .tripped, permit := false, speed := 0, stopper := 0, mode := .off, integrator := 0
                    kind := none, plan := none, slot := none, target := none, holdReturn := none
                    freezeReturn := none, resume := none, lag := 0, timeoutNoted := false, floorReached := false
                    rateNoted := false, limitNoted := false } })

/-- The placement of R96: class 1 after the last class 1 entry and ahead of every class 2 entry, class 2 last. -/
def Obligations.EnqueuePlacesByClass : Prop :=
  ∀ (n : Strand) (s : State), queueOrdered s →
    let e : QEntry := { strand := n, cls := classOf (ctxOf s n).kind, time := s.store.time }
    enqueue n s = { s with arb := (enqueue n s).arb }
      ∧ (enqueue n s).arb.holders = s.arb.holders ∧ (enqueue n s).arb.spacing = s.arb.spacing
      ∧ ((ctxOf s n).kind = some .tundish ∨ (ctxOf s n).kind = some .dip →
          e.cls = 1 ∧ (enqueue n s).arb.queue
            = s.arb.queue.filter (·.cls == 1) ++ e :: s.arb.queue.filter (·.cls == 2))
      ∧ ((ctxOf s n).kind = some .start → e.cls = 2 ∧ (enqueue n s).arb.queue = s.arb.queue ++ [e])

/-- The time counter (R154) counts 10 ms and wraps after 4294967295; the spacing timer is 10 ms older (assumption log
3). At its expiry (R102) the timer stops and an evaluation is made; away from NORMAL, or with an empty queue, or with
the holders at PMAX, that is all. A stopped timer has no expiry: its command answers the state unchanged (assumption log
21). -/
def Obligations.TimeCountsAndSpacingExpires : Prop :=
  ∀ s : State, s.phase = .running →
    (s.store.time ≤ 4294967295 →
        exec .timeCounterTick s = .next { s with
          store := { s.store with time := if s.store.time = 4294967295 then 0 else s.store.time + 1 }
          arb := { s.arb with spacing := s.arb.spacing.map (· - 10) } })
      ∧ (s.arb.spacing = none → exec .spacingTimerExpiry s = .next s)
      ∧ (s.arb.spacing.isSome = true →
          (s.mon.state ≠ .normal ∨ s.arb.queue = [] ∨ s.cfg.plant.pmax ≤ s.arb.holders.length) →
            exec .spacingTimerExpiry s = .next { s with arb := { s.arb with spacing := none } })
      ∧ (s.arb.spacing.isSome = true →
          exec .spacingTimerExpiry s = exec .grantEvaluation { s with arb := { s.arb with spacing := none } })

/-! ## Changes, supply and time -/

/-- Where no rising edge is taken (R111, R112) only taken levels, run counts and the 10 ms of the window (assumption log
3) change. The
rising edge of NEW_SEATED in NO_CHANGE records CAR_SEQUENCE in the plant log, and nothing else (R120). -/
def Obligations.CarLinesOutsideAChange : Prop :=
  (∀ (a b f : Bool) (s : State), s.phase = .running →
      ¬ (a = true ∧ s.coord.takenBegin = false ∧ 2 ≤ s.coord.runBegin) →
      ¬ (b = true ∧ s.coord.takenSeated = false ∧ 2 ≤ s.coord.runSeated) →
        exec (.carLineSampling a b f) s = .next { s with
          coord :=
            { s.coord with
              window := s.coord.window.map (· - 10)
              takenBegin := if 2 ≤ s.coord.runBegin then a else s.coord.takenBegin
              runBegin := if a = s.coord.takenBegin ∨ 2 ≤ s.coord.runBegin then 0 else s.coord.runBegin + 1
              takenSeated := if 2 ≤ s.coord.runSeated then b else s.coord.takenSeated
              runSeated := if b = s.coord.takenSeated ∨ 2 ≤ s.coord.runSeated then 0
                           else s.coord.runSeated + 1 } })
    ∧ (∀ (f : Bool) (s : State), s.phase = .running → s.coord.state = .noChange →
      s.coord.takenSeated = false → s.coord.runSeated = 2 →
        exec (.carLineSampling s.coord.takenBegin true f) s = .next { s with
          coord := { s.coord with window := s.coord.window.map (· - 10), takenSeated := true, runBegin := 0,
                                  runSeated := 0 }
          alarm := s.alarm || alarmOf s.cfg .carSequence
          plantLog := logRecord s.plantLog
            { kind := .carSequence, time := s.store.time, monitor := s.mon.state, change := .noChange,
              volts := s.mon.sample, mark := alarmOf s.cfg .carSequence, affected := [] }
            .carSequence (alarmOf s.cfg .carSequence) })

/-- The rising edge of CHANGE_BEGIN in NO_CHANGE (R113, R23, R115, R72): the window starts, every running strand is in
CHANGE with its stopper shut, every frozen one is rewritten, and queue and holders are empty. In CHANGING the edge is
ignored (R114); that the window is there 10 ms older is the aging of the sample (assumption log 3). That the two markers of
the ramp keep their values is the model's reading (assumption log 32). -/
def Obligations.ChangeBeginTakesEveryStrand : Prop :=
  ∀ (f : Bool) (s : State), s.phase = .running → permitLaw s → queueLaw s →
    s.coord.takenBegin = false → s.coord.runBegin = 2 →
      (s.coord.state = .noChange →
        ∃ t, exec (.carLineSampling true s.coord.takenSeated f) s = .next t
          ∧ t = { s with
              strands := t.strands
              arb := { holders := [], queue := [], spacing := s.arb.spacing }
              coord := { state := .changing, window := some (s.cfg.plant.tchange * 1000), takenBegin := true,
                         takenSeated := s.coord.takenSeated, runBegin := 0, runSeated := 0 } }
          ∧ ∀ n : Strand,
              ((ctxOf s n).state = .fill ∨ (ctxOf s n).state = .dwell ∨ (ctxOf s n).state = .waitPermit
                  ∨ (ctxOf s n).state = .ramp ∨ (ctxOf s n).state = .cast ∨ (ctxOf s n).state = .held →
                t.strands[n] = { s.strands[n] with
                  outStopper := 0
                  ctx := { ctxOf s n with
                    state := .change, resume := some ((ctxOf s n).resume.getD (ctxOf s n).speed)
                    stopper := 0, mode := .off, integrator := 0, kind := none, plan := none
                    holdReturn := none, slot := none, target := none, lag := 0, floorReached := false
                    permit := false } })
              ∧ ((ctxOf s n).state = .frozen → (ctxOf s n).freezeReturn ≠ some .change →
                t.strands[n] = { s.strands[n] with
                  outStopper := 0
                  ctx := { ctxOf s n with
                    freezeReturn := some .change
                    resume := some ((ctxOf s n).resume.getD (ctxOf s n).speed)
                    stopper := 0, mode := .off, integrator := 0, kind := none, plan := none
                    holdReturn := none, slot := none, target := none, floorReached := false } })
              ∧ ((ctxOf s n).state = .idle ∨ (ctxOf s n).state = .stopping ∨ (ctxOf s n).state = .tripped
                  ∨ (ctxOf s n).state = .change
                  ∨ ((ctxOf s n).state = .frozen ∧ (ctxOf s n).freezeReturn = some .change) →
                t.strands[n] = s.strands[n]))
      ∧ (s.coord.state = .changing →
        exec (.carLineSampling true s.coord.takenSeated f) s = .next { s with
          coord := { s.coord with window := s.coord.window.map (· - 10), takenBegin := true, runBegin := 0,
                                  runSeated := 0 } })

/-- The rising edge of NEW_SEATED in CHANGING (R118, R119, R51, R52): the change is complete and every strand of it is on
a TUNDISH restart, under DEFT where that is usable and under plan F with NO_PLAN otherwise. The count of its refill (R92)
is the model's field (assumption log 28). A sample with the rising edges of both lines (R124) is taken as the one edge and
then the other against the state the first left, seated first where the command says so (assumption log 6). In NO_CHANGE the
change is so begun and completed at once, or CAR_SEQUENCE is recorded and the change begun. -/
def Obligations.SeatedBeginsTundishRestarts : Prop :=
  (∀ (f : Bool) (s : State), s.phase = .running → s.coord.state = .changing →
    s.coord.takenSeated = false → s.coord.runSeated = 2 →
      ∃ t, exec (.carLineSampling s.coord.takenBegin true f) s = .next t
        ∧ t = { s with
            strands := t.strands, alarm := t.alarm
            coord := { s.coord with state := .noChange, window := none, takenSeated := true, runBegin := 0,
                                    runSeated := 0 } }
        ∧ ∀ n : Strand,
            ((ctxOf s n).state = .change
                ∨ ((ctxOf s n).state = .frozen ∧ (ctxOf s n).freezeReturn = some .change) →
              ∃ r, t.strands[n] = { s.strands[n] with
                  log := t.strands[n].log, refilled := 0
                  ctx := { ctxOf s n with
                    state := if (ctxOf s n).state = .change then .fill else .frozen
                    freezeReturn := if (ctxOf s n).state = .change then (ctxOf s n).freezeReturn else some .fill
                    kind := some .tundish, plan := some r, extremes := none, timer := 0, timeoutNoted := false
                    mode := .closed, integrator := 0, levelTarget := (ctxOf t n).levelTarget } }
                ∧ (∀ (p : PlanNo) (h : Header), s.cfg.strands[n].deft = p.val + 1 → s.plans[p].state = .valid →
                    s.plans[p].header = some h → h.kind = .tundish →
                    r = .plan p s.plans[p].rev ∧ (ctxOf t n).levelTarget = h.fill
                      ∧ t.strands[n].log = s.strands[n].log)
                ∧ ((∀ (p : PlanNo) (h : Header), s.cfg.strands[n].deft = p.val + 1 → s.plans[p].state = .valid →
                      s.plans[p].header = some h → h.kind ≠ .tundish) →
                    r = .fallback ∧ (ctxOf t n).levelTarget = s.strands[n].force.lnorm
                      ∧ ∃ q, q.kind = .noPlan ∧ q.state = (ctxOf t n).state ∧ q.restart = some .tundish
                          ∧ q.plan = some .fallback
                          ∧ t.strands[n].log
                              = logRecord s.strands[n].log q .noPlan (alarmOf s.cfg .noPlan)))
            ∧ ((ctxOf s n).state ≠ .change → ((ctxOf s n).state = .frozen → (ctxOf s n).freezeReturn ≠ some .change) →
                t.strands[n] = s.strands[n]))
    ∧ (∀ s : State, s.phase = .running → s.coord.takenBegin = false → s.coord.runBegin = 2 →
      s.coord.takenSeated = false → s.coord.runSeated = 2 →
        let running (n : Strand) : Prop :=
          (ctxOf s n).state = .fill ∨ (ctxOf s n).state = .dwell ∨ (ctxOf s n).state = .waitPermit
            ∨ (ctxOf s n).state = .ramp ∨ (ctxOf s n).state = .cast ∨ (ctxOf s n).state = .held
        let both : Coordinator := { s.coord with takenBegin := true, takenSeated := true, runBegin := 0, runSeated := 0 }
        (∃ u, exec (.carLineSampling true false false) s = .next u
            ∧ ∀ f : Bool, exec (.carLineSampling true true false) s
                = exec (.carLineSampling true true f) { u with coord := { u.coord with runSeated := 2 } })
          ∧ (∃ u, exec (.carLineSampling false true false) s = .next u
            ∧ ∀ f : Bool, exec (.carLineSampling true true true) s
                = exec (.carLineSampling true true f) { u with coord := { u.coord with runBegin := 2 } })
          ∧ (s.coord.state = .noChange →
            (∃ t, exec (.carLineSampling true true false) s = .next t
              ∧ t.coord = { both with state := .noChange, window := none } ∧ t.plantLog = s.plantLog
              ∧ ∀ n : Strand, running n →
                  (ctxOf t n).state = .fill ∧ (ctxOf t n).kind = some .tundish
                    ∧ (ctxOf t n).speed = (ctxOf s n).speed
                    ∧ (ctxOf t n).resume = some ((ctxOf s n).resume.getD (ctxOf s n).speed))
            ∧ (∃ t, exec (.carLineSampling true true true) s = .next t
              ∧ t.coord = { both with state := .changing, window := some (s.cfg.plant.tchange * 1000) }
              ∧ t.plantLog = logRecord s.plantLog
                  { kind := .carSequence, time := s.store.time, monitor := s.mon.state, change := .noChange,
                    volts := s.mon.sample, mark := alarmOf s.cfg .carSequence, affected := [] }
                  .carSequence (alarmOf s.cfg .carSequence)
              ∧ ∀ n : Strand, running n → (ctxOf t n).state = .change ∧ (ctxOf t n).kind = none)))

/-- The expiry of the change window (R122, R123, R27): every strand of the change records CHANGE_OVERRUN and enters
STOPPING; the others are not touched. That the two markers of the ramp keep their values is the model's reading (assumption
log 32). -/
def Obligations.WindowExpiryStopsTheChange : Prop :=
  ∀ s : State, s.phase = .running → s.coord.window.isSome = true →
    ∃ t, exec .changeWindowExpiry s = .next t
      ∧ t = { s with strands := t.strands, alarm := t.alarm, coord := { s.coord with state := .noChange, window := none } }
      ∧ ∀ n : Strand,
          ((ctxOf s n).state = .change
              ∨ ((ctxOf s n).state = .frozen ∧ (ctxOf s n).freezeReturn = some .change) →
            t.strands[n] = { s.strands[n] with
              outStopper := 0
              log := logRecord s.strands[n].log (strandRecord s n .changeOverrun (observed s n)) .changeOverrun
                (alarmOf s.cfg .changeOverrun)
              ctx := { ctxOf s n with
                state := .stopping, stopper := 0, mode := .off, integrator := 0, kind := none, plan := none
                slot := none, target := none, holdReturn := none, freezeReturn := none, lag := 0 } })
          ∧ ((ctxOf s n).state ≠ .change → ((ctxOf s n).state = .frozen → (ctxOf s n).freezeReturn ≠ some .change) →
              t.strands[n] = s.strands[n])

/-- The entry into DIP (R128, R129, R130, R25, R72): the second sample in a row below VDIP freezes the seven states,
records SUPPLY_DIP and empties queue and holders. What the sample takes from a running timer is the model's (assumption log
3). -/
def Obligations.DipFreezesTheStrands : Prop :=
  ∀ (v : Nat) (s : State), s.phase = .running → permitLaw s → queueLaw s → s.mon.state = .normal →
    1 ≤ s.mon.low → min v 1500 < s.cfg.plant.vdip →
      ∃ t, exec (.busVoltageSampling v) s = .next t
        ∧ t = { s with
            strands := t.strands
            arb := { holders := [], queue := [], spacing := s.arb.spacing }
            mon := { state := .dip, sample := min v 1500, low := 2, ride := some (roundUp10 s.cfg.plant.tride),
                     settle := if s.mon.settleAhead then s.mon.settle else s.mon.settle.map (· - 10)
                     settleCut := s.mon.settleCut && s.mon.settleAhead, settleAhead := false }
            alarm := s.alarm || alarmOf s.cfg .supplyDip
            plantLog := logRecord s.plantLog
              { kind := .supplyDip, time := s.store.time, monitor := .dip, change := s.coord.state,
                volts := min v 1500, mark := alarmOf s.cfg .supplyDip, affected := [] }
              .supplyDip (alarmOf s.cfg .supplyDip) }
        ∧ ∀ n : Strand,
            (∀ g, freezeState g = (ctxOf s n).state →
              t.strands[n] = { s.strands[n] with
                ctx := { ctxOf s n with
                  state := .frozen, freezeReturn := some g, lag := 0, permit := false
                  resume := if g = .ramp ∨ g = .cast ∨ g = .held
                    then some ((ctxOf s n).resume.getD (ctxOf s n).speed) else (ctxOf s n).resume } })
            ∧ ((ctxOf s n).state = .idle ∨ (ctxOf s n).state = .frozen ∨ (ctxOf s n).state = .stopping
                ∨ (ctxOf s n).state = .tripped → t.strands[n] = s.strands[n])

/-- Every other sample (R128, R129, R131, R132, R136): no strand is touched and nothing is recorded. A sample below VOK that
restarts the settle timer cuts off the expiry of its earlier run (R137). The 10 ms off the running timers, but not off a
settle timer that a ride-through expiry has started at the moment of this sample, are the model's (assumption log 3). -/
def Obligations.SamplesMoveTheMonitor : Prop :=
  ∀ (v : Nat) (s : State), s.phase = .running →
    let x := min v 1500
    let low := if x < s.cfg.plant.vdip then min (s.mon.low + 1) 2 else 0
    let older : Option Nat := if s.mon.settleAhead then s.mon.settle else s.mon.settle.map (· - 10)
    let still : Bool := s.mon.settleCut && s.mon.settleAhead
    let again : Option Nat := some (roundUp10 s.cfg.plant.tsettle)
    let after (m : MonitorState) (settle : Option Nat) (cut : Bool) : Host.Outcome State Fault Refusal :=
      .next { s with mon := { state := m, sample := x, low := low, ride := s.mon.ride.map (· - 10), settle := settle,
                              settleCut := cut, settleAhead := false } }
    (s.mon.state = .normal → low < 2 → exec (.busVoltageSampling v) s = after .normal older still)
      ∧ (s.mon.state = .dip → exec (.busVoltageSampling v) s
          = if s.cfg.plant.vok ≤ x then after .settling again false else after .dip older still)
      ∧ (s.mon.state = .settling → exec (.busVoltageSampling v) s
          = if s.cfg.plant.vok ≤ x then after .settling older still
            else if low = 2 then after .dip none false else after .settling again true)
      ∧ (s.mon.state = .outage → exec (.busVoltageSampling v) s
          = if s.cfg.plant.vok ≤ x then after .outage older still else after .outage again true)

/-- The expiry of the settle timer. In OUTAGE it brings the monitor to NORMAL and moves no strand (R136). In SETTLING
(R133, R139 to R141, R70) each FROZEN strand goes on as its freeze_return requires, its setpoint lowered to the measured
speed and driven. One frozen in RAMP or CAST, or held in RAMP, is on a DIP restart: under DEFD where that is usable,
toward the level of its slot 1, and else under plan F toward LNORM with NO_PLAN (R51, R52, R82). The others keep their
restart, and their level target, that of a resumed wait among them (R82, R139; assumption log 29). Those that go on in
WAIT_PERMIT are placed in the queue in ascending strand number, each in its class (R96, R97), and the event ends with one
grant evaluation, which a running spacing timer keeps from granting (R100). The timer may expire whatever time remains
(assumption log 3), a timer restarted at the same moment not at all (R137), and a stopped one never (assumption log 21). That
the two markers of the ramp keep their values at a recovery is the model's reading (assumption log 32). -/
def Obligations.SettleExpiryRecoversTheStrands : Prop :=
  ∀ (measured : Vector Nat 6) (s : State), s.phase = .running →
    let c := ctxOf s
    let normal : Monitor := { s.mon with state := .normal, settle := none, settleCut := false, settleAhead := false }
    let frozenIn (n : Strand) (g : FreezeReturn) : Bool := (c n).state = .frozen ∧ (c n).freezeReturn = some g
    let begins (n : Strand) : Bool :=
      frozenIn n .ramp || frozenIn n .cast || (frozenIn n .held && (c n).holdReturn = some .ramp)
    let waits (n : Strand) : Bool := frozenIn n .waitPermit || frozenIn n .ramp || frozenIn n .cast
    let speed (n : Strand) : Nat := min (c n).speed (min measured[n] 8000 * 16)
    (s.mon.settle = none ∨ s.mon.settleCut = true → exec (.settleTimerExpiry measured) s = .next s)
      ∧ (supplyLaw s → queueLaw s → s.mon.state = .outage → s.mon.settle.isSome = true → s.mon.settleCut = false →
          exec (.settleTimerExpiry measured) s = .next { s with mon := normal })
      ∧ (s.mon.state = .settling → s.mon.settle.isSome = true → s.mon.settleCut = false →
        ∃ u t, exec (.settleTimerExpiry measured) s = .next t ∧ exec .grantEvaluation u = .next t
          ∧ (s.arb.spacing.isSome = true → t = u)
          ∧ u = { s with
              strands := u.strands, mon := { normal with ride := none }
              arb := { s.arb with
                queue := (allStrands.filter waits).foldl (fun q n =>
                  place { strand := n, cls := if frozenIn n .waitPermit then classOf (c n).kind else 1,
                          time := s.store.time } q) s.arb.queue }
              alarm := s.alarm || (alarmOf s.cfg .noPlan
                && allStrands.any fun n => begins n && (ctxOf u n).plan = some .fallback) }
          ∧ ∀ n : Strand,
              ((c n).state ≠ .frozen → u.strands[n] = s.strands[n])
              ∧ ∀ g, (c n).state = .frozen → (c n).freezeReturn = some g →
                  (begins n = false →
                    u.strands[n] = { s.strands[n] with
                      outSpeed := (speed n + 8) / 16
                      ctx := { c n with
                        state := freezeState g, freezeReturn := none, slot := none, target := none
                        speed := speed n, holdReturn := if g = .held then (c n).holdReturn else none } })
                  ∧ (begins n = true →
                    let went (r : PlanRef) (lt : Nat) : Ctx :=
                      { c n with
                        state := if g = .held then .held else .waitPermit
                        holdReturn := if g = .held then some .waitPermit else none
                        freezeReturn := none, slot := none, target := none, speed := speed n
                        kind := some .dip, plan := some r, extremes := none, timer := 0, timeoutNoted := false
                        levelTarget := lt }
                    (∀ (p : PlanNo) (h : Header) (y : Slot), s.cfg.strands[n].defd = p.val + 1 →
                      s.plans[p].state = .valid → s.plans[p].header = some h → h.kind = .dip →
                      s.plans[p].slots[0] = some y →
                        u.strands[n] = { s.strands[n] with
                          outSpeed := (speed n + 8) / 16, ctx := went (.plan p s.plans[p].rev) y.level })
                    ∧ ((∀ (p : PlanNo) (h : Header), s.cfg.strands[n].defd = p.val + 1 →
                        s.plans[p].state = .valid → s.plans[p].header = some h → h.kind ≠ .dip) →
                        u.strands[n] = { s.strands[n] with
                          outSpeed := (speed n + 8) / 16, ctx := went .fallback s.strands[n].force.lnorm
                          log := logRecord s.strands[n].log
                            { kind := .noPlan, time := s.store.time
                              state := if g = .held then .held else .waitPermit, restart := some .dip
                              plan := some .fallback, slot := none, speedOut := (speed n + 8) / 16
                              measured := (observed s n).1, level := (observed s n).2
                              stopper := (c n).stopper, mark := alarmOf s.cfg .noPlan }
                            .noPlan (alarmOf s.cfg .noPlan) })))

/-- The expiry of the ride-through timer (R134, R135, R29): OUTAGE; every FROZEN strand records SUPPLY_LOST and is
TRIPPED, the plant log records it with the list of them, and the other strands are not touched. A settle timer it
restarts does not expire for its earlier run, and one started ahead of the sample of the moment, with time of the ride-
through left, loses nothing to that sample (R137); the fields that say so are the model's (assumption log 3). That entry
into TRIPPED makes floor reached no, as R29 says of every marker, is the model's reading (assumption log 33). -/
def Obligations.RideThroughExpiryTripsTheFrozen : Prop :=
  ∀ (s : State) (left : Nat), s.phase = .running → s.mon.ride = some left →
    s.mon.state = .dip ∨ s.mon.state = .settling →
    ∃ t, exec .rideThroughExpiry s = .next t
      ∧ t = { s with
          strands := t.strands, alarm := true
          mon := { s.mon with state := .outage, ride := none, settle := some (roundUp10 s.cfg.plant.tsettle)
                              settleCut := s.mon.settle.isSome, settleAhead := decide (0 < left) }
          plantLog := logRecord s.plantLog
            { kind := .supplyLost, time := s.store.time, monitor := .outage, change := s.coord.state,
              volts := s.mon.sample, mark := true,
              affected := allStrands.filter fun n => (ctxOf s n).state = .frozen }
            .supplyLost true }
      ∧ ∀ n : Strand,
          ((ctxOf s n).state = .frozen →
            t.strands[n] = { s.strands[n] with
              outSpeed := 0, outStopper := 0, outTrip := true
              log := logRecord s.strands[n].log (strandRecord s n .supplyLost (observed s n)) .supplyLost true
              ctx := { ctxOf s n with
                state := .tripped, speed := 0, stopper := 0, mode := .off, integrator := 0, kind := none
                plan := none, slot := none, target := none, holdReturn := none, freezeReturn := none
                resume := none, lag := 0, timeoutNoted := false, floorReached := false, rateNoted := false
                limitNoted := false } })
          ∧ ((ctxOf s n).state ≠ .frozen → t.strands[n] = s.strands[n])

/-- A record entering a log (R155): the first of an empty log is its First record; any later one puts its kind into
the Next set, with a mark that either entry of the kind had, and changes no other entry. -/
def Obligations.RecordEntersTheLog : Prop :=
  ∀ (ρ : Type) (l : Log ρ) (r : ρ) (k : Kind) (m : Bool), logOk 1 19 l →
    (l.first = none → logRecord l r k m = { first := some r, next := [] })
      ∧ (∀ f, l.first = some f →
          (logRecord l r k m).first = some f
          ∧ (∀ e, e.kind ≠ k → (e ∈ (logRecord l r k m).next ↔ e ∈ l.next))
          ∧ (∀ e, e.kind = k → (e ∈ (logRecord l r k m).next ↔
              e.mark = (m || l.next.any fun x => x.kind = k && x.mark)))
          ∧ (logRecord l r k m).next.Pairwise (fun a b => kindNumber a.kind < kindNumber b.kind))

/-! ## The service line -/

/-- The characters of R175 other than the CR that completes a line, which `RequestLinesAreJudged` has: what each receive
state does with them. That a
framing error counts whatever PARITY says is the model's (assumption log 14). -/
def Obligations.CharactersAreReceived : Prop :=
  ∀ (code : Nat) (pe fe : Bool) (s : State), s.phase = .running →
    let bad : Prop := fe = true ∨ (pe = true ∧ s.line.parity = .even)
    let next (l : Line) : Host.Outcome State Fault Refusal := .next { s with line := l }
    let counted : Nat := min (s.line.errors + 1) 255
    (s.line.recv = .betweenLines → exec (.characterReceived code pe fe) s
        = if ¬ bad ∧ code = 62 then next { s.line with recv := .inLine, buffer := [62] } else .next s)
      ∧ (s.line.recv = .inLine → bad →
          exec (.characterReceived code pe fe) s = next { s.line with recv := .betweenLines, errors := counted })
      ∧ (s.line.recv = .inLine → ¬ bad → code = 62 →
          exec (.characterReceived code pe fe) s = next { s.line with buffer := [62], errors := counted })
      ∧ (s.line.recv = .inLine → ¬ bad → code ≠ 62 → 32 ≤ code → code ≤ 126 → s.line.buffer.length < 95 →
          exec (.characterReceived code pe fe) s = next { s.line with buffer := s.line.buffer ++ [code] })
      ∧ (s.line.recv = .inLine → ¬ bad → code ≠ 62 → code ≠ 13 →
          (code < 32 ∨ 126 < code ∨ 95 ≤ s.line.buffer.length) →
          exec (.characterReceived code pe fe) s = next { s.line with recv := .betweenLines, errors := counted })
      ∧ (s.line.recv = .answering → ¬ bad → code = 10 → s.line.firstChar = true →
          exec (.characterReceived code pe fe) s = next { s.line with firstChar := false })
      ∧ (s.line.recv = .answering → (bad ∨ code ≠ 10 ∨ s.line.firstChar = false) →
          exec (.characterReceived code pe fe) s
            = next { s.line with firstChar := false, spanCounted := true,
                                 errors := if s.line.spanCounted then s.line.errors else counted })

/-- A request line (R175, R176, R178, R179), whether it arrives whole or its CR comes last, in IN LINE, on the characters
received before: a broken frame or check is counted once and gets no reply; a line for the part makes it ANSWERING with the
request handed over or refused at once; a line for another unit is discarded. That the request waits in `handed` for its owner
is the model's (assumption log 4), and that REQUEST_LINE brings all characters of its line is read from R175 and R176
(assumption log 5). -/
def Obligations.RequestLinesAreJudged : Prop :=
  ∀ s : State, s.phase = .running →
    let judged (c : Instr) (whole : Text) : Prop :=
      let l : Line := { s.line with recv := .betweenLines, buffer := whole }
      let answering : Line := { l with recv := .answering, firstChar := true, spanCounted := false }
      let done (m : Line) : Prop := exec c s = .next { s with line := m }
      (frameOf whole = none → done { l with errors := min (s.line.errors + 1) 255 })
        ∧ ∀ f, frameOf whole = some f →
            (f.addr = s.line.addr → ∀ r, judgeContent f.body = .request r →
              done { answering with handed := s.line.handed ++ [r] })
            ∧ (f.addr = s.line.addr → ∀ reply, judgeContent f.body = .refused reply →
              done { answering with reply := some (replyLine s.line.addr reply) })
            ∧ (f.addr ≠ s.line.addr → f.addr ≠ 0 ∨ (f.body ≠ word "HLD ALL" ∧ f.body ≠ word "STP ALL") → done l)
            ∧ (f.addr ≠ s.line.addr → f.addr = 0 → f.body = word "HLD ALL" →
              done { l with handed := s.line.handed ++ [.hldAll true] })
            ∧ (f.addr ≠ s.line.addr → f.addr = 0 → f.body = word "STP ALL" →
              done { l with handed := s.line.handed ++ [.stpAll true] })
    (s.line.recv = .betweenLines → ∀ body : Text, body.length ≤ 94 → (∀ c ∈ body, 32 ≤ c ∧ c ≤ 126 ∧ c ≠ 62) →
        judged (.requestLine (62 :: body ++ [13])) (62 :: body ++ [13]))
      ∧ (s.line.recv = .inLine → ∀ parityError : Bool, parityError = false ∨ s.line.parity ≠ .even →
        judged (.characterReceived 13 parityError false) (s.line.buffer ++ [13]))

/-- What is written on the line is read back. The frame and check of R176: with the sum of the covered characters the line
is taken, with any other two digits it is not. A PUT written with any key and any value its item takes is read as that
request (R163, R164, R147, R179, R184). -/
def Obligations.WrittenLinesReadBack : Prop :=
  (∀ (a : Nat) (body check : Text), a < 100 → body ≠ [] → check.length = 2 →
      let covered := addressDigits a ++ 32 :: body ++ [32]
      (check = checkDigits covered → frameOf (62 :: covered ++ 42 :: check ++ [13]) = some { addr := a, body := body })
        ∧ (check ≠ checkDigits covered → frameOf (62 :: covered ++ 42 :: check ++ [13]) = none))
    ∧ (∀ (k : CfgKey) (v : Value), accepts k v = true →
      judgeContent (word "PUT " ++ keyText k ++ 61 :: valueText v) = .request (.put [(k, v)]))

/-- The refusals of the interface (R179): the reply is the only effect; a strand number outside 1 to 6 and a plan number
outside 1 to 12 get RANGE. While a request is being answered, a verb whose line arrives is faulty input, counted once
for the span (R175), and has no other effect; the hand-over of requests is assumption log 4. -/
def Obligations.RequestsAreTakenOneAtATime : Prop :=
  ((∀ (c : Instr) (r : Request) (reply : Reply) (s : State), c.request? = some r → taken r s →
        interfaceRefusal r = some reply → exec c s = .next (answered r reply s))
      ∧ (∀ (n m p : Nat) (plan : Option Nat) (a b : Bool) (c : Instr) (r : Request) (s : State),
          n = 0 ∨ 6 < n → p = 0 ∨ 12 < p →
          c ∈ [Instr.getStrand n, .getLog (.strand n), .beg n plan a b, .hld n, .res n plan, .stp n, .rel n m,
               .ack (.strand n), .getPlan (.plan p), .getSlot (.plan p) m, .plnClr p, .chk p,
               .beg m (some p) a b, .res m (some p)] →
          c.request? = some r → taken r s → exec c s = .next (answered r (noFor "RANGE" []) s))
      ∧ (∀ (p i : Nat) (h : Header) (gs : List Slot) (c : Instr) (r : Request) (s : State),
          p = 0 ∨ 12 < p → gs ≠ [] → c ∈ [Instr.plnHeaderWrite p h, .plnSlotWrite p i gs] →
          c.request? = some r → taken r s → exec c s = .next (answered r (noFor "RANGE" []) s)))
    ∧ (∀ (c : Instr) (r : Request) (s : State), c.request? = some r → s.phase = .running → mayTake r s.line = false →
      exec c s = .next { s with
        line := { s.line with firstChar := false, spanCounted := true
                              errors := if s.line.spanCounted then s.line.errors
                                        else min (s.line.errors + 1) 255 } })

/-- The reads of the plant's blocks, each of which changes nothing but the line: STA (R181), and GET IDENT, PERMIT, STORE,
TIME and CFG (R182, R109, R168, R154, R165). GET CAUSE and GET LINEERR read and clear in one event (R183, R174, R177); the
counter reported is the one after the request was taken, in which assumption log 4 counts a line under way. That GET CFG
reports an item of R163 whose values are YES and NO in these words is assumption log 31. -/
def Obligations.PlantReadsReportTheState : Prop :=
  (∀ s : State, taken .sta s →
      exec .sta s = .next (answered .sta
        { ok := true
          fields :=
            [monitorWord s.mon.state, changeWord s.coord.state,
             decimal s.arb.holders.length ++ word "/" ++ decimal s.cfg.plant.pmax, decimal s.arb.queue.length,
             word (if s.alarm then "ON" else "OFF"), word (if s.store.saving then "SAVING" else "IDLE"),
             stateCode (ctxOf s 0).state, stateCode (ctxOf s 1).state, stateCode (ctxOf s 2).state,
             stateCode (ctxOf s 3).state, stateCode (ctxOf s 4).state, stateCode (ctxOf s 5).state] } s))
    ∧ (∀ s : State,
        (taken .getIdent s → exec .getIdent s
            = .next (answered .getIdent { ok := true, fields := [word "PALCEN", word "6S", word "A"] } s))
          ∧ (∀ (k : CfgKey) (v : Value), getItem s.cfg k = some v → taken (.getCfg k) s → exec (.getCfg k) s
            = .next (answered (.getCfg k) { ok := true, fields := [valueText v] } s))
          ∧ (taken .getTime s → exec .getTime s
            = .next (answered .getTime { ok := true, fields := [decimal s.store.time] } s))
          ∧ (taken .getStore s → exec .getStore s = .next (answered .getStore
              { ok := true
                fields := [word (if s.store.saving then "SAVING" else "IDLE"),
                           word (if s.store.lastOk then "OK" else "FAIL"), decimal s.store.image.count,
                           word (if s.store.image.valid then "VALID" else "INVALID")] } s))
          ∧ (taken .getPermit s → exec .getPermit s = .next (answered .getPermit
              { ok := true
                fields := [decimal s.cfg.plant.pmax, decimal s.cfg.plant.gap]
                  ++ decimal s.arb.holders.length :: s.arb.holders.map (fun n => decimal (n.val + 1))
                  ++ decimal s.arb.queue.length :: s.arb.queue.map (fun e =>
                      decimal (e.strand.val + 1) ++ word ":" ++ decimal e.cls ++ word ":" ++ decimal e.time)
                  ++ [match s.arb.spacing with
                      | some t => decimal (t / 10)
                      | none => word "STOPPED"] } s)))
    ∧ (∀ s : State,
        (taken .getCause s →
            let f := s.store.flags
            let set : List Text :=
              (if f.powerOn then [word "POWER_ON"] else []) ++ (if f.powerReturn then [word "POWER_RETURN"] else [])
                ++ (if f.lineReset then [word "LINE_RESET"] else [])
                ++ (if f.storeInvalid then [word "STORE_INVALID"] else [])
            exec .getCause s = .next
              { answered .getCause { ok := true, fields := decimal set.length :: set } s with
                store := { s.store with
                  flags := { powerOn := false, powerReturn := false, lineReset := false, storeInvalid := false } } })
          ∧ (taken .getLineerr s →
              exec .getLineerr s = .next { s with
                line := { lineTaking .getLineerr s.line with
                  errors := 0
                  reply := some (replyLine s.line.addr
                    { ok := true, fields := [decimal (lineTaking .getLineerr s.line).errors] }) } }))

/-- The reads of strands, logs and plans, each of which changes nothing but the line: GET STRAND n and GET LOG n or P report
the context and the log as they stand (R162, R182), with a negative integrator as assumption log 12 writes it and the speed
output as driven (assumption log 24); GET PLAN and GET SLOT report plans 1 to 12 and plan F (R54, R182). -/
def Obligations.StrandAndPlanReadsReportTheState : Prop :=
  (∀ (n : Strand) (s : State),
      (taken (.getStrand (n.val + 1)) s → exec (.getStrand (n.val + 1)) s = .next (answered (.getStrand (n.val + 1))
          { ok := true
            fields :=
              let c := ctxOf s n
              [stateCode c.state, optional (fun h => stateCode (holdState h)) c.holdReturn,
               optional (fun f => stateCode (freezeState f)) c.freezeReturn, optional restartWord c.kind,
               optional planRefText c.plan, optional decimal (c.slot.map SlotRun.index),
               optional decimal (c.slot.map SlotRun.k), optional decimal (c.slot.map SlotRun.s0),
               optional decimal c.target, optional stepText (c.slot.map SlotRun.step), decimal c.speed,
               decimal s.strands[n].outSpeed, optional decimal c.resume, decimal c.timer, yn c.timeoutNoted,
               decimal c.levelTarget, decimal c.stopper, signedDecimal c.integrator, modeWord c.mode]
                ++ decimal c.history.length :: c.history.map decimal
                ++ [yn c.permit, optional decimal (c.extremes.map Extremes.peak),
                    optional decimal (c.extremes.map Extremes.valley), decimal c.lag, yn c.floorReached,
                    yn c.rateNoted, yn c.limitNoted] } s))
        ∧ (taken (.getLog (.strand (n.val + 1))) s → exec (.getLog (.strand (n.val + 1))) s
            = .next (answered (.getLog (.strand (n.val + 1)))
              { ok := true
                fields :=
                  (match s.strands[n].log.first with
                    | none => [word "NONE"]
                    | some r => [decimal (kindNumber r.kind), decimal r.time, stateCode r.state,
                        optional restartWord r.restart, optional planRefText r.plan, optional decimal r.slot,
                        decimal r.speedOut, decimal r.measured, optional decimal r.level, decimal r.stopper,
                        yn r.mark])
                  ++ decimal s.strands[n].log.next.length :: s.strands[n].log.next.map (fun e =>
                      decimal (kindNumber e.kind) ++ word ":" ++ yn e.mark)
                  ++ activeFields s.strands[n].active } s))
        ∧ (taken (.getLog .plant) s → exec (.getLog .plant) s = .next (answered (.getLog .plant)
            { ok := true
              fields :=
                (match s.plantLog.first with
                  | none => [word "NONE"]
                  | some r => [decimal (kindNumber r.kind), decimal r.time, monitorWord r.monitor,
                      changeWord r.change, decimal r.volts, yn r.mark]
                      ++ decimal r.affected.length :: r.affected.map (fun m => decimal (m.val + 1)))
                ++ decimal s.plantLog.next.length :: s.plantLog.next.map (fun e =>
                    decimal (kindNumber e.kind) ++ word ":" ++ yn e.mark) } s)))
    ∧ (∀ (p : PlanNo) (i : Fin 16) (s : State),
        let plan := s.plans[p]
        (taken (.getPlan (.plan (p.val + 1))) s → exec (.getPlan (.plan (p.val + 1))) s
            = .next (answered (.getPlan (.plan (p.val + 1)))
              { ok := true
                fields := [planStateWord plan.state, decimal plan.rev, decimal (refCount s p)]
                  ++ (match plan.header with
                    | none => List.replicate 5 (word "-")
                    | some h => [restartWord h.kind, decimal h.fill, decimal h.dwell, decimal h.count,
                                 if h.name = [] then word "-" else h.name])
                  ++ decimal (definedSlots plan).length :: definedSlots plan } s))
          ∧ (taken (.getSlot (.plan (p.val + 1)) (i.val + 1)) s → exec (.getSlot (.plan (p.val + 1)) (i.val + 1)) s
              = .next (answered (.getSlot (.plan (p.val + 1)) (i.val + 1))
                { ok := true
                  fields := match plan.slots[i] with
                    | none => [word "UNDEF"]
                    | some y => [targetText y.target, decimal y.duration, decimal y.level, stepText y.step] } s))
          ∧ (taken (.getPlan .fallback) s → exec (.getPlan .fallback) s = .next (answered (.getPlan .fallback)
              { ok := true
                fields := [word "VALID", word "0", word "0", word "-", word "LNORM", word "0", word "1", word "-",
                           word "1", word "1"] } s))
          ∧ (taken (.getSlot .fallback (i.val + 1)) s → exec (.getSlot .fallback (i.val + 1)) s
              = .next (answered (.getSlot .fallback (i.val + 1))
                { ok := true
                  fields := if i = 0 then [word "RESUME", word "300", word "LNORM", word "AUTO"]
                            else [word "UNDEF"] } s)))

/-! ## Settings and plans -/

/-- A PUT of one accepted item (R165): the item has the value and every other item keeps its own. A PUT of several accepted
pairs is applied in one event: the cross-checks see the values together, the last pair of a key counts, and no item that it
does not name changes (R165, R184).
A PUT of PMAX (R103, R101) that raises it answers what GRANT_EVALUATION answers with the new PMAX and the OK reply, so that
one of the four conditions of R100 then fails; otherwise it touches no holder. -/
def Obligations.AcceptedPutsAreApplied : Prop :=
  (∀ (k : CfgKey) (v : Value) (s : State), taken (.put [(k, v)]) s → s.store.saving = false →
      accepts k v = true → crossCheck (setItem s.cfg k v) k = true → k ≠ .plant .pmax →
      (∀ n : Strand, k = .strand .enabled n → (ctxOf s n).state = .idle) →
        ∃ t, exec (.put [(k, v)]) s = .next t
          ∧ t = { answered (.put [(k, v)]) { ok := true, fields := [] } s with cfg := t.cfg }
          ∧ getItem t.cfg k = some v ∧ (∀ j : CfgKey, j ≠ k → getItem t.cfg j = getItem s.cfg j))
    ∧ (∀ (v : Nat) (s : State), 1 ≤ v → v ≤ 3 → taken (.put [(.plant .pmax, .num v)]) s → s.store.saving = false →
      ∃ t, exec (.put [(.plant .pmax, .num v)]) s = .next t
        ∧ t.cfg = { s.cfg with plant := { s.cfg.plant with pmax := v } }
        ∧ t = { answered (.put [(.plant .pmax, .num v)]) { ok := true, fields := [] } s with
            cfg := t.cfg, strands := t.strands, arb := t.arb, alarm := t.alarm }
        ∧ (v ≤ s.cfg.plant.pmax →
            t = { answered (.put [(.plant .pmax, .num v)]) { ok := true, fields := [] } s with cfg := t.cfg })
        ∧ (s.cfg.plant.pmax < v →
            exec .grantEvaluation { answered (.put [(.plant .pmax, .num v)]) { ok := true, fields := [] } s with
              cfg := { s.cfg with plant := { s.cfg.plant with pmax := v } } } = .next t
            ∧ ¬ (t.mon.state = .normal ∧ t.arb.holders.length < v ∧ t.arb.spacing = none ∧ t.arb.queue ≠ [])))
    ∧ (∀ (pairs : List (CfgKey × Value)) (s : State), pairs ≠ [] → taken (.put pairs) s → s.store.saving = false →
      (∀ q ∈ pairs, accepts q.1 q.2 = true) →
      (∀ (n : Strand) (v : Value), (.strand .enabled n, v) ∈ pairs → (ctxOf s n).state = .idle) →
        ∃ result : Cfg,
          (∀ k, (∀ v, (k, v) ∉ pairs) → getItem result k = getItem s.cfg k)
            ∧ (∀ before k v after, pairs = before ++ (k, v) :: after → (∀ w, (k, w) ∉ after) →
                getItem result k = some v)
            ∧ ((∀ q ∈ pairs, crossCheck result q.1 = true) →
                let u := { answered (.put pairs) { ok := true, fields := [] } s with cfg := result }
                (result.plant.pmax ≤ s.cfg.plant.pmax → exec (.put pairs) s = .next u)
                  ∧ (s.cfg.plant.pmax < result.plant.pmax → exec (.put pairs) s = exec .grantEvaluation u)))

/-- A PUT is refused whole (R165): BUSY while SAVING, then the first failing pair in written order, then the first
failing cross-check of the resulting set; the reply is the only effect. R165 does not order the two tests within one pair:
that ENABLED of a running strand gets STATE before its value is tested is the model's reading (assumption log 16). -/
def Obligations.PutIsRefusedWhole : Prop :=
  ∀ (a b : CfgKey × Value) (s : State), taken (.put [a, b]) s →
    let no (words : List Text) : Host.Outcome State Fault Refusal :=
      .next (answered (.put [a, b]) { ok := false, fields := words } s)
    let running (k : CfgKey) : Prop := ∃ n : Strand, k = .strand .enabled n ∧ (ctxOf s n).state ≠ .idle
    let c := setItem (setItem s.cfg a.1 a.2) b.1 b.2
    (s.store.saving = true → exec (.put [a, b]) s = no [word "BUSY"])
      ∧ (s.store.saving = false →
          (running a.1 → exec (.put [a, b]) s = no [word "STATE", keyText a.1])
          ∧ (¬ running a.1 → accepts a.1 a.2 = false → exec (.put [a, b]) s = no [word "RANGE", keyText a.1])
          ∧ (¬ running a.1 → accepts a.1 a.2 = true →
              (running b.1 → exec (.put [a, b]) s = no [word "STATE", keyText b.1])
              ∧ (¬ running b.1 → accepts b.1 b.2 = false →
                  exec (.put [a, b]) s = no [word "RANGE", keyText b.1])
              ∧ (¬ running b.1 → accepts b.1 b.2 = true →
                  (crossCheck c a.1 = false → exec (.put [a, b]) s = no [word "RANGE", keyText a.1])
                  ∧ (crossCheck c a.1 = true → crossCheck c b.1 = false →
                      exec (.put [a, b]) s = no [word "RANGE", keyText b.1]))))

/-- An accepted header write (R42) and an accepted PLN CLR (R44), with the revision of R40. -/
def Obligations.HeaderWritesAndClears : Prop :=
  (∀ (p : PlanNo) (h : Header) (s : State), headerInRange h = true → taken (.plnHeader (p.val + 1) h) s →
      s.store.saving = false → (∀ (n : Strand) (rev : Nat), (ctxOf s n).plan ≠ some (.plan p rev)) →
        exec (.plnHeaderWrite (p.val + 1) h) s = .next
          { answered (.plnHeader (p.val + 1) h) { ok := true, fields := [] } s with
            plans := s.plans.set p { s.plans[p] with
              state := .draft, rev := (s.plans[p].rev + 1) % 65536
              header := some h } })
    ∧ (∀ (p : PlanNo) (s : State), taken (.plnClr (p.val + 1)) s → s.store.saving = false →
      (∀ (n : Strand) (rev : Nat), (ctxOf s n).plan ≠ some (.plan p rev)) →
        exec (.plnClr (p.val + 1)) s = .next
          { answered (.plnClr (p.val + 1)) { ok := true, fields := [] } s with
            plans := s.plans.set p { state := .empty, rev := (s.plans[p].rev + 1) % 65536, header := none,
                                     slots := Vector.replicate 16 none } })

/-- An accepted slot write (R43): its groups at consecutive positions, the others kept. A PLN on a busy store or a plan in
use (R41, tests 4 and 5) is refused, the plan as it was. -/
def Obligations.SlotWritesAndPlansInUse : Prop :=
  (∀ (p : PlanNo) (i : Nat) (gs : List Slot) (s : State), gs ≠ [] → (∀ g ∈ gs, slotInRange g = true) →
      1 ≤ i → i + gs.length ≤ 17 → taken (.plnSlots (p.val + 1) i gs) s → s.store.saving = false →
      (∀ (n : Strand) (rev : Nat), (ctxOf s n).plan ≠ some (.plan p rev)) →
        ∃ t, exec (.plnSlotWrite (p.val + 1) i gs) s = .next t
          ∧ t = { answered (.plnSlots (p.val + 1) i gs) { ok := true, fields := [] } s with plans := t.plans }
          ∧ (∀ q : PlanNo, q ≠ p → t.plans[q] = s.plans[q])
          ∧ t.plans[p].state = .draft ∧ t.plans[p].rev = (s.plans[p].rev + 1) % 65536
          ∧ t.plans[p].header = s.plans[p].header
          ∧ ∀ j : Fin 16,
              t.plans[p].slots[j]
                = if i - 1 ≤ j.val ∧ j.val < i - 1 + gs.length then gs[j.val - (i - 1)]? else s.plans[p].slots[j])
    ∧ (∀ (p : PlanNo) (h : Header) (i : Nat) (g : Slot) (c : Instr) (r : Request) (s : State),
      headerInRange h = true → slotInRange g = true → 1 ≤ i → i ≤ 16 →
      c ∈ [Instr.plnHeaderWrite (p.val + 1) h, .plnSlotWrite (p.val + 1) i [g], .plnClr (p.val + 1)] →
      c.request? = some r → taken r s →
        (s.store.saving = true → exec c s = .next (answered r { ok := false, fields := [word "BUSY"] } s))
          ∧ (s.store.saving = false → (∃ (n : Strand) (rev : Nat), (ctxOf s n).plan = some (.plan p rev)) →
              exec c s = .next (answered r { ok := false, fields := [word "INUSE"] } s)))

/-- CHK (R46): the five rows of its table. The checks of R47 are made in their order, and none fails exactly when all
four hold. -/
def Obligations.ChkAnswersByItsChecks : Prop :=
  (∀ (p : PlanNo) (s : State), taken (.chk (p.val + 1)) s →
      let reply (ok : Bool) (fields : List Text) : State :=
        answered (.chk (p.val + 1)) { ok := ok, fields := fields } s
      (s.store.saving = true → exec (.chk (p.val + 1)) s = .next (reply false [word "BUSY"]))
        ∧ (s.store.saving = false →
            (s.plans[p].state = .empty → exec (.chk (p.val + 1)) s = .next (reply false [word "STATE"]))
            ∧ (s.plans[p].state = .valid → exec (.chk (p.val + 1)) s = .next (reply true []))
            ∧ (s.plans[p].state = .draft → planFault s.plans[p] = none →
                exec (.chk (p.val + 1)) s = .next
                  { reply true [] with plans := s.plans.set p { s.plans[p] with state := .valid } })
            ∧ (s.plans[p].state = .draft → ∀ item, planFault s.plans[p] = some item →
                exec (.chk (p.val + 1)) s = .next (reply false (word "PLAN" :: item)))))
    ∧ (∀ (x : Plan),
      let undefinedAt (i : Nat) : Prop := x.slots[i - 1]? = none ∨ x.slots[i - 1]? = some none
      let targetAt (i : Nat) (v : Target) : Prop := ∃ y, x.slots[i - 1]? = some (some y) ∧ y.target = v
      (x.header = none → planFault x = some [word "HEADER"])
        ∧ ∀ h, x.header = some h → 1 ≤ h.count →
            (∀ i, 1 ≤ i → i ≤ h.count → undefinedAt i → (∀ j, 1 ≤ j → j < i → ¬ undefinedAt j) →
              planFault x = some [word "SLOT", decimal i])
            ∧ ((∀ i, 1 ≤ i → i ≤ h.count → ¬ undefinedAt i) →
                (h.kind = .start → (∃ i, 1 ≤ i ∧ i ≤ h.count ∧ targetAt i .resume) →
                  planFault x = some [word "RESUME"])
                ∧ (h.kind = .start → (∀ i, 1 ≤ i → i ≤ h.count → ¬ targetAt i .resume) → targetAt 1 (.speed 0) →
                  planFault x = some [word "SLOT", word "1"])
                ∧ (h.kind ≠ .start ∨
                    ((∀ i, 1 ≤ i → i ≤ h.count → ¬ targetAt i .resume) ∧ ¬ targetAt 1 (.speed 0)) →
                  planFault x = none)))

/-! ## Strand verbs -/

/-- BEG (R33): its checks in their order, each with its reason word and no other effect; when all pass, the strand is in
FILL on a START restart under the named plan at its current revision (R12, R13), its setpoint 0 (R31) and kept. The count of
its refill (R92) is the model's field (assumption log 28). BREAKOUT is not in the active-condition set the restart begins
with, so that one still asserted is found at a new onset in the first FILL period (R33, R150; assumption log 30). -/
def Obligations.BegMakesItsChecksInOrder : Prop :=
  ∀ (n : Strand) (plan : Option Nat) (seated ready : Bool) (s : State),
    (∀ p, plan = some p → 1 ≤ p ∧ p ≤ 12) → taken (.beg (n.val + 1) plan) s →
      let c := Instr.beg (n.val + 1) plan seated ready
      let no (reason : String) : Prop :=
        exec c s = .next (answered (.beg (n.val + 1) plan) { ok := false, fields := [word reason] } s)
      let sought := plan.getD s.cfg.strands[n].defs
      let check1 : Prop := (ctxOf s n).state = .idle ∧ s.cfg.strands[n].enabled = true
      let check2 : Prop := seated = true ∧ ready = true
      (¬ check1 → no "STATE")
        ∧ (check1 → ¬ check2 → no "NOTREADY")
        ∧ (check1 → check2 → s.mon.state ≠ .normal → no "SUPPLY")
        ∧ (check1 → check2 → s.mon.state = .normal → s.coord.state ≠ .noChange → no "CHANGE")
        ∧ (check1 → check2 → s.mon.state = .normal → s.coord.state = .noChange →
            (∀ (p : PlanNo) (h : Header), sought = p.val + 1 → s.plans[p].state = .valid →
              s.plans[p].header = some h → h.kind ≠ .start) → no "PLAN")
        ∧ (check1 → check2 → s.mon.state = .normal → s.coord.state = .noChange →
            ∀ (p : PlanNo) (h : Header), sought = p.val + 1 → s.plans[p].state = .valid →
              s.plans[p].header = some h → h.kind = .start →
              exec c s = .next
                { answered (.beg (n.val + 1) plan) { ok := true, fields := [] } s with
                  strands := s.strands.set n { s.strands[n] with
                    refilled := 0
                    active := { s.strands[n].active with breakout := false }
                    ctx := { ctxOf s n with
                      state := .fill, kind := some .start, plan := some (.plan p s.plans[p].rev)
                      extremes := none, timer := 0, timeoutNoted := false, mode := .closed, integrator := 0
                      levelTarget := h.fill } } }
                ∧ (ctxSpeedOk (ctxOf s n) → (ctxOf s n).speed = 0))

/-- HLD n (R34, R21), RES n (R35) and STP n (R36, R27) where they are accepted, and their refusals with STATE. That the two
markers of the ramp keep their values at STP is the model's reading (assumption log 32). -/
def Obligations.HldResAndStpMoveOneStrand : Prop :=
  ∀ (n : Strand) (s : State),
    let b := s.strands[n]
    let c := ctxOf s n
    let holding : Prop := c.state = .ramp ∨ (c.state = .held ∧ c.holdReturn = some .ramp)
    (taken (.hld (n.val + 1)) s →
        (∀ h, holdState h = c.state → exec (.hld (n.val + 1)) s = .next
          { answered (.hld (n.val + 1)) { ok := true, fields := [] } s with
            strands := s.strands.set n { b with
              ctx := { c with state := .held, holdReturn := some h, lag := 0 } }
            arb := if c.state = .waitPermit then { s.arb with queue := s.arb.queue.filter (·.strand != n) }
                   else s.arb })
        ∧ ((∀ h, holdState h ≠ c.state) → exec (.hld (n.val + 1)) s
            = .next (answered (.hld (n.val + 1)) { ok := false, fields := [word "STATE"] } s)))
      ∧ (taken (.stp (n.val + 1)) s →
          (c.state ≠ .idle → c.state ≠ .stopping → c.state ≠ .tripped →
            exec (.stp (n.val + 1)) s = .next
              { answered (.stp (n.val + 1)) { ok := true, fields := [] } s with
                strands := s.strands.set n { b with
                  outStopper := 0
                  ctx := { c with
                    state := .stopping, stopper := 0, mode := .off, integrator := 0, kind := none, plan := none
                    slot := none, target := none, holdReturn := none, freezeReturn := none, lag := 0
                    permit := if holding then false else c.permit } }
                arb := { s.arb with
                  queue := if c.state = .waitPermit then s.arb.queue.filter (·.strand != n) else s.arb.queue
                  holders := if holding then s.arb.holders.filter (· != n) else s.arb.holders } })
          ∧ (c.state = .idle ∨ c.state = .stopping ∨ c.state = .tripped → exec (.stp (n.val + 1)) s
              = .next (answered (.stp (n.val + 1)) { ok := false, fields := [word "STATE"] } s)))
      ∧ (taken (.res (n.val + 1) none) s →
          (c.state = .held → ∀ h, c.holdReturn = some h → h ≠ .waitPermit →
            exec (.res (n.val + 1) none) s = .next
              { answered (.res (n.val + 1) none) { ok := true, fields := [] } s with
                strands := s.strands.set n { b with ctx := { c with state := holdState h, holdReturn := none } } })
          ∧ (c.state = .held → c.holdReturn = some .waitPermit →
              ∃ lt, (∀ p rev y, c.plan = some (.plan p rev) → s.plans[p].slots[0] = some y → lt = y.level)
                ∧ (c.plan = some .fallback → lt = b.force.lnorm)
                ∧ exec (.res (n.val + 1) none) s = .next
                    { answered (.res (n.val + 1) none) { ok := true, fields := [] } s with
                      strands := s.strands.set n { b with
                        ctx := { c with state := .waitPermit, holdReturn := none, levelTarget := lt } }
                      arb := { s.arb with
                        queue := place { strand := n, cls := classOf c.kind, time := s.store.time }
                          s.arb.queue } })
          ∧ (c.state ≠ .held → exec (.res (n.val + 1) none) s
              = .next (answered (.res (n.val + 1) none) { ok := false, fields := [word "STATE"] } s)))
      ∧ (∀ p, 1 ≤ p → p ≤ 12 → taken (.res (n.val + 1) (some p)) s → exec (.res (n.val + 1) (some p)) s
          = .next (answered (.res (n.val + 1) (some p)) { ok := false, fields := [word "STATE"] } s))

/-- HLD ALL and STP ALL (R34, R36, R178, R185): every strand that accepts the verb takes it, the others are left as they
were; the reply lists them, and a broadcast gets none. That the two markers of the ramp keep their values at STP ALL is the
model's reading (assumption log 32). -/
def Obligations.AllVerbsTakeEveryStrand : Prop :=
  ∀ (broadcast : Bool) (s : State),
    let listed (p : Strand → Bool) : Reply :=
      let l := (allStrands.filter p).map fun n => decimal (n.val + 1)
      { ok := true, fields := decimal l.length :: l }
    let replied (r : Request) (reply : Reply) : Line :=
      if broadcast then lineTaking r s.line else (answered r reply s).line
    let waiting (n : Strand) : Bool := (ctxOf s n).state = .waitPermit
    let holding (n : Strand) : Bool :=
      (ctxOf s n).state = .ramp ∨ ((ctxOf s n).state = .held ∧ (ctxOf s n).holdReturn = some .ramp)
    let holdable (n : Strand) : Bool :=
      (ctxOf s n).state = .fill ∨ (ctxOf s n).state = .dwell ∨ (ctxOf s n).state = .waitPermit
        ∨ (ctxOf s n).state = .ramp
    let stoppable (n : Strand) : Bool :=
      (ctxOf s n).state ≠ .idle ∧ (ctxOf s n).state ≠ .stopping ∧ (ctxOf s n).state ≠ .tripped
    (taken (.hldAll broadcast) s →
        ∃ t, exec (.hldAll broadcast) s = .next t
          ∧ t = { s with
              strands := t.strands, line := replied (.hldAll broadcast) (listed holdable)
              arb := { s.arb with queue := s.arb.queue.filter fun e => !waiting e.strand } }
          ∧ ∀ n : Strand,
              (∀ h, holdState h = (ctxOf s n).state →
                t.strands[n] = { s.strands[n] with
                  ctx := { ctxOf s n with state := .held, holdReturn := some h, lag := 0 } })
              ∧ (holdable n = false → t.strands[n] = s.strands[n]))
      ∧ (taken (.stpAll broadcast) s →
        ∃ t, exec (.stpAll broadcast) s = .next t
          ∧ t = { s with
              strands := t.strands, line := replied (.stpAll broadcast) (listed stoppable)
              arb := { s.arb with queue := s.arb.queue.filter fun e => !waiting e.strand
                                  holders := s.arb.holders.filter fun n => !holding n } }
          ∧ ∀ n : Strand,
              (stoppable n = true →
                t.strands[n] = { s.strands[n] with
                  outStopper := 0
                  ctx := { ctxOf s n with
                    state := .stopping, stopper := 0, mode := .off, integrator := 0, kind := none, plan := none
                    slot := none, target := none, holdReturn := none, freezeReturn := none, lag := 0
                    permit := if holding n then false else (ctxOf s n).permit } })
              ∧ (stoppable n = false → t.strands[n] = s.strands[n]))

/-- REL (R37, R11) with its checks in their order, and ACK (R160, R159) of a strand log and of the plant log. That entry
into IDLE makes floor reached no, as R11 says of every marker, is the model's reading (assumption log 33). -/
def Obligations.RelAndAckFollowTheirChecks : Prop :=
  ∀ (n : Strand) (m : Nat) (s : State),
    (taken (.rel (n.val + 1)) s →
        let no (reason : String) : Prop :=
          exec (.rel (n.val + 1) m) s
            = .next (answered (.rel (n.val + 1)) { ok := false, fields := [word reason] } s)
        ((ctxOf s n).state ≠ .tripped → no "STATE")
          ∧ ((ctxOf s n).state = .tripped → s.strands[n].log.first ≠ none → no "PENDING")
          ∧ ((ctxOf s n).state = .tripped → s.strands[n].log.first = none → 10 ≤ m → no "STATE")
          ∧ ((ctxOf s n).state = .tripped → s.strands[n].log.first = none → m < 10 →
              exec (.rel (n.val + 1) m) s = .next
                { answered (.rel (n.val + 1)) { ok := true, fields := [] } s with
                  strands := s.strands.set n { s.strands[n] with
                    outStopper := 0, outTrip := false
                    ctx := { ctxOf s n with
                      state := .idle, stopper := 0, mode := .off, integrator := 0, kind := none, plan := none
                      slot := none, target := none, holdReturn := none, freezeReturn := none, resume := none
                      extremes := none, lag := 0, timeoutNoted := false, floorReached := false
                      rateNoted := false, limitNoted := false } } }))
      ∧ (taken (.ack (.strand (n.val + 1))) s →
          ∃ t, exec (.ack (.strand (n.val + 1))) s = .next t
            ∧ t = { answered (.ack (.strand (n.val + 1))) { ok := true, fields := [] } s with
                alarm := t.alarm
                strands := s.strands.set n { s.strands[n] with log := { first := none, next := [] } } }
            ∧ (t.alarm = true ↔ (∃ k : Strand, k ≠ n ∧ logMarked StrandRec.mark s.strands[k].log = true)
                ∨ logMarked PlantRec.mark s.plantLog = true))
      ∧ (taken (.ack .plant) s →
          ∃ t, exec (.ack .plant) s = .next t
            ∧ t = { answered (.ack .plant) { ok := true, fields := [] } s with
                alarm := t.alarm, plantLog := { first := none, next := [] } }
            ∧ (t.alarm = true ↔ ∃ k : Strand, logMarked StrandRec.mark s.strands[k].log = true))

/-! ## Saves, control power and starts -/

/-- SAV (R167) by its table, and its completion (R167, R168): well, or failed with STORE_FAULT. That the data stand in the image
from SAV on, under the cleared marker, is assumption log 23; a completion without a save under way answers the state
unchanged (assumption log 21). -/
def Obligations.SavesRunToTheirCompletion : Prop :=
  ∀ (agrees inTime : Bool) (s : State),
    (taken .sav s →
        (s.store.saving = true → exec .sav s = .next (answered .sav { ok := false, fields := [word "BUSY"] } s))
          ∧ (s.store.saving = false → s.store.image.count = 50000 →
              exec .sav s = .next (answered .sav { ok := false, fields := [word "WEAR"] } s))
          ∧ (s.store.saving = false → s.store.image.count ≠ 50000 →
              exec .sav s = .next
                { answered .sav { ok := true, fields := [] } s with
                  store := { s.store with
                    saving := true
                    image := { valid := false, data := some { plans := s.plans, cfg := s.cfg },
                               count := s.store.image.count } } }))
      ∧ (s.phase = .running →
          (s.store.saving = true → agrees = true → inTime = true →
              exec (.saveCompletion agrees inTime) s = .next { s with
                store := { s.store with
                  saving := false, lastOk := true
                  image := { s.store.image with valid := true, count := s.store.image.count + 1 } } })
            ∧ (s.store.saving = true → ¬ (agrees = true ∧ inTime = true) →
              exec (.saveCompletion agrees inTime) s = .next { s with
                store := { s.store with saving := false, lastOk := false }
                alarm := s.alarm || alarmOf s.cfg .storeFault
                plantLog := logRecord s.plantLog
                  { kind := .storeFault, time := s.store.time, monitor := s.mon.state, change := s.coord.state,
                    volts := s.mon.sample, mark := alarmOf s.cfg .storeFault, affected := [] }
                  .storeFault (alarmOf s.cfg .storeFault) })
            ∧ (s.store.saving = false → exec (.saveCompletion agrees inTime) s = .next s))

/-- RST (R173) by its table, and the end of a reply (R164, R175, R180): the line is released with the ADDR, BAUD and
PARITY now set; or, after an accepted RST, the line-reset start is made (R171, R5, R154, R158, R174). Without a reply being sent
REPLY_SENT answers the state unchanged (assumption log 21); the bus sample of the start comes with it (assumption log 7). -/
def Obligations.RepliesEndWithReleaseOrLineReset : Prop :=
  ∀ (volts : Nat) (s : State),
    (taken .rst s →
        (s.store.saving = true → exec .rst s = .next (answered .rst { ok := false, fields := [word "BUSY"] } s))
          ∧ (s.store.saving = false → (∃ n : Strand, (ctxOf s n).state ≠ .idle) →
              exec .rst s = .next (answered .rst { ok := false, fields := [word "STATE"] } s))
          ∧ (s.store.saving = false → (∀ n : Strand, (ctxOf s n).state = .idle) →
              exec .rst s = .next { s with
                line := { (answered .rst { ok := true, fields := [] } s).line with resetArmed := true } }))
      ∧ (s.phase = .running → s.line.reply = none → exec (.replySent volts) s = .next s)
      ∧ (s.phase = .running → s.line.reply.isSome = true → s.line.resetArmed = false →
          exec (.replySent volts) s = .next { s with
            line := { s.line with recv := .betweenLines, reply := none, addr := s.cfg.plant.addr,
                                  baud := s.cfg.plant.baud, parity := s.cfg.plant.parity } })
      ∧ (s.phase = .running → s.line.reply.isSome = true → s.line.resetArmed = true →
          ∀ d, loads s.store.image d →
            ∃ t, exec (.replySent volts) s = .next t ∧ startedOn d volts t
              ∧ (∀ n : Strand, ctxOf t n = Ctx.powerOn d.cfg.strands[n].lnorm ∧ t.strands[n].outTrip = false
                  ∧ t.strands[n].log = { first := none, next := [] })
              ∧ t.plantLog = { first := none, next := [] } ∧ t.alarm = false ∧ t.store.time = 0
              ∧ t.store.flags = { s.store.flags with
                  lineReset := true, storeInvalid := s.store.flags.storeInvalid || !s.store.image.valid }
              ∧ t.store.image = s.store.image ∧ t.store.snapshot = s.store.snapshot
              ∧ t.failing = s.failing ∧ t.pending = s.pending)

/-- SHUTDOWN (R169, R6, R121, R168): the outputs forced, the save abandoned, the snapshot begun from the contexts, logs,
counter and flags as they stand; the contexts keep their fields. -/
def Obligations.ShutdownForcesOutputsAndSnapshots : Prop :=
  ∀ s : State,
    (s.phase = .running →
        ∃ t d, exec .shutdown s = .next t
          ∧ t = { s with
              strands := t.strands, alarm := true, phase := .shutdown, failing := true
              coord := { s.coord with window := none }
              line := { s.line with recv := .betweenLines, handed := [], reply := none, resetArmed := false }
              store := { s.store with
                saving := false, snapshot := { valid := false, writing := true, data := some d } } }
          ∧ (∀ n : Strand, t.strands[n] = { s.strands[n] with outSpeed := 0, outStopper := 0, outTrip := true }
              ∧ d.ctxs[n] = ctxOf s n ∧ d.logs[n] = s.strands[n].log)
          ∧ d.plantLog = s.plantLog ∧ d.time = s.store.time ∧ d.flags = s.store.flags)
      ∧ (s.phase = .shutdown ∨ s.phase = .holding → exec .shutdown s = .next { s with failing := true })

/-- Control power (R169, R170): the snapshot's marker is set last; the end of the warning; a loss of power; and its
application, which holds the outputs as in SHUTDOWN. What these do out of place is assumption logs 20 and 21; that a loss of
power leaves outputs and ALARM as last driven is assumption log 19. -/
def Obligations.ControlPowerComesAndGoes : Prop :=
  ∀ (failing : Bool) (s : State),
    let silent : Line := { s.line with recv := .betweenLines, handed := [], reply := none, resetArmed := false }
    let abandoned : Store := { s.store with saving := false
                                            snapshot := { s.store.snapshot with writing := false } }
    (s.phase = .shutdown → s.store.snapshot.writing = true → exec .snapshotCompletion s = .next { s with
        store := { s.store with snapshot := { s.store.snapshot with valid := true, writing := false } } })
      ∧ (s.phase ≠ .shutdown ∨ s.store.snapshot.writing = false → exec .snapshotCompletion s = .next s)
      ∧ (s.phase ≠ .unpowered → exec .controlSupplyFailingDeassert s = .next { s with failing := false })
      ∧ exec .controlPowerLoss s = .next { s with phase := .unpowered, line := silent, store := abandoned }
      ∧ ∃ t, exec (.powerApplication failing) s = .next t
          ∧ t = { s with strands := t.strands, alarm := true, phase := .holding, failing := failing
                         line := silent, store := abandoned }
          ∧ ∀ n : Strand, t.strands[n] = { s.strands[n] with outSpeed := 0, outStopper := 0, outTrip := true }

/-- START without a valid snapshot (R170, R171, R5, R154, R158, R174): the power-on start. START while running, or while
CONTROL_SUPPLY_FAILING is asserted, or without power, is no start (assumption log 20). -/
def Obligations.PowerOnStartsAfresh : Prop :=
  ∀ (terminals : Vector Sample 6) (volts : Nat) (s : State) (d : ImageData),
    (s.phase = .running ∨ s.phase = .unpowered ∨ s.failing = true → exec (.start terminals volts) s = .next s)
      ∧ (s.phase = .shutdown ∨ s.phase = .holding → s.failing = false → s.store.snapshot.valid = false →
          loads s.store.image d →
            ∃ t, exec (.start terminals volts) s = .next t ∧ startedOn d volts t
              ∧ (∀ n : Strand, ctxOf t n = Ctx.powerOn d.cfg.strands[n].lnorm ∧ t.strands[n].outTrip = false
                  ∧ t.strands[n].log = { first := none, next := [] })
              ∧ t.plantLog = { first := none, next := [] } ∧ t.alarm = false ∧ t.store.time = 0
              ∧ t.store.flags = { powerOn := true, powerReturn := false, lineReset := false
                                  storeInvalid := !s.store.image.valid }
              ∧ t.store.image = s.store.image ∧ t.store.snapshot.valid = false
              ∧ t.failing = false ∧ t.pending = s.pending)

/-- START with a valid snapshot (R170 to R172, R5, R29, R154, R156, R158, R174): the power-return start. A strand that
was IDLE takes the power-on values; every other records CONTROL_POWER_LOST and is TRIPPED, its level target the
snapshot's (assumption log 18). That entry into TRIPPED makes floor reached no, as R29 says of every marker, is the
model's reading (assumption log 33). -/
def Obligations.PowerReturnTripsTheRunning : Prop :=
  ∀ (terminals : Vector Sample 6) (volts : Nat) (s : State) (d : ImageData) (snap : SnapData),
    s.phase = .shutdown ∨ s.phase = .holding → s.failing = false → permitLaw s →
    s.store.snapshot.valid = true → s.store.snapshot.data = some snap → loads s.store.image d →
      ∃ t, exec (.start terminals volts) s = .next t ∧ startedOn d volts t
        ∧ t.alarm = true ∧ t.store.time = snap.time
        ∧ t.store.flags = { snap.flags with
            powerReturn := true, storeInvalid := snap.flags.storeInvalid || !s.store.image.valid }
        ∧ t.store.snapshot.valid = false ∧ t.store.image = s.store.image ∧ t.pending = s.pending
        ∧ t.plantLog = logRecord snap.plantLog
            { kind := .controlPowerLost, time := snap.time, monitor := .outage, change := .noChange,
              volts := min volts 1500, mark := true,
              affected := allStrands.filter fun n => snap.ctxs[n].state ≠ .idle }
            .controlPowerLost true
        ∧ ∀ n : Strand,
            (snap.ctxs[n].state = .idle →
              ctxOf t n = Ctx.powerOn d.cfg.strands[n].lnorm ∧ t.strands[n].outTrip = false
                ∧ t.strands[n].log = snap.logs[n])
            ∧ (snap.ctxs[n].state ≠ .idle →
              t.strands[n].outTrip = true
                ∧ ctxOf t n = { snap.ctxs[n] with
                    state := .tripped, history := [], permit := false, speed := 0, stopper := 0, mode := .off
                    integrator := 0, kind := none, plan := none, slot := none, target := none
                    holdReturn := none, freezeReturn := none, resume := none, lag := 0, timeoutNoted := false
                    floorReached := false, rateNoted := false, limitNoted := false }
                ∧ t.strands[n].log = logRecord snap.logs[n]
                    { kind := .controlPowerLost, time := snap.time, state := snap.ctxs[n].state,
                      restart := snap.ctxs[n].kind, plan := snap.ctxs[n].plan,
                      slot := snap.ctxs[n].slot.map SlotRun.index, speedOut := (snap.ctxs[n].speed + 8) / 16,
                      measured := min terminals[n].measured 8000, level := validLevel terminals[n],
                      stopper := snap.ctxs[n].stopper, mark := true }
                    .controlPowerLost true)

end Statements
end

