-- ==== Sys2Proof/Laws/State.lean ====
section
/-! SUPPORT. What the shared operations on one strand change: the small lemmas of `mapBlock` and `mapCtx`, and for each
operation that it stays with its strand (`StrandOnly`). A proof cites these and never unfolds a record update. -/

namespace Sys2Proof.Machine

open Sys2Proof

/-! ## Blocks and contexts -/

section Blocks

variable (n m : Strand) (f : Block → Block) (g : Ctx → Ctx) (s : State)

theorem mapBlock_same : (mapBlock n f s).strands[n] = f s.strands[n] := by simp [mapBlock]

theorem mapBlock_other (h : m ≠ n) : (mapBlock n f s).strands[m] = s.strands[m] := by
  have : n.val ≠ m.val := fun e => h (Fin.ext e.symm)
  simp [mapBlock, this]

@[simp] theorem mapBlock_val : (mapBlock n f s).strands[n.val] = f s.strands[n.val] := by simp [mapBlock]
@[simp] theorem mapBlock_plans : (mapBlock n f s).plans = s.plans := rfl
@[simp] theorem mapBlock_arb : (mapBlock n f s).arb = s.arb := rfl
@[simp] theorem mapBlock_coord : (mapBlock n f s).coord = s.coord := rfl
@[simp] theorem mapBlock_mon : (mapBlock n f s).mon = s.mon := rfl
@[simp] theorem mapBlock_plantLog : (mapBlock n f s).plantLog = s.plantLog := rfl
@[simp] theorem mapBlock_cfg : (mapBlock n f s).cfg = s.cfg := rfl
@[simp] theorem mapBlock_store : (mapBlock n f s).store = s.store := rfl
@[simp] theorem mapBlock_line : (mapBlock n f s).line = s.line := rfl
@[simp] theorem mapBlock_phase : (mapBlock n f s).phase = s.phase := rfl
@[simp] theorem mapBlock_failing : (mapBlock n f s).failing = s.failing := rfl
@[simp] theorem mapBlock_alarm : (mapBlock n f s).alarm = s.alarm := rfl
@[simp] theorem mapBlock_pending : (mapBlock n f s).pending = s.pending := rfl

@[simp] theorem mapBlock_mapBlock (f' : Block → Block) :
    mapBlock n f' (mapBlock n f s) = mapBlock n (fun b => f' (f b)) s := by simp [mapBlock]

@[simp] theorem ctxOf_mapBlock : ctxOf (mapBlock n f s) n = (f s.strands[n]).ctx := by simp [ctxOf]

theorem ctxOf_mapBlock_other (h : m ≠ n) : ctxOf (mapBlock n f s) m = ctxOf s m := by
  rw [ctxOf, ctxOf, mapBlock_other n m f s h]

@[simp] theorem ctxOf_mapCtx : ctxOf (mapCtx n g s) n = g (ctxOf s n) := by simp [ctxOf, mapCtx]

theorem ctxOf_mapCtx_other (h : m ≠ n) : ctxOf (mapCtx n g s) m = ctxOf s m :=
  ctxOf_mapBlock_other n m _ s h

theorem mapCtx_block : (mapCtx n g s).strands[n] = { s.strands[n] with ctx := g (ctxOf s n) } := by
  simp [mapCtx, ctxOf]

theorem mapCtx_other (h : m ≠ n) : (mapCtx n g s).strands[m] = s.strands[m] := mapBlock_other n m _ s h

end Blocks

/-! ## Operations that stay with one strand -/

/-- `t` differs from `s` in the block of strand `n`, in that strand's place among holders and in the queue, and in
ALARM, and in nothing else. -/
structure StrandOnly (n : Strand) (s t : State) : Prop where
  rest    : t = { s with strands := t.strands, arb := t.arb, alarm := t.alarm }
  others  : ∀ m : Strand, m ≠ n → t.strands[m] = s.strands[m]
  spacing : t.arb.spacing = s.arb.spacing
  holders : t.arb.holders.filter (· != n) = s.arb.holders.filter (· != n)
  queue   : t.arb.queue.filter (·.strand != n) = s.arb.queue.filter (·.strand != n)

namespace StrandOnly

variable {n : Strand} {s t u : State}

protected theorem refl (n : Strand) (s : State) : StrandOnly n s s := ⟨rfl, fun _ _ => rfl, rfl, rfl, rfl⟩

protected theorem trans (h : StrandOnly n s t) (k : StrandOnly n t u) : StrandOnly n s u where
  rest := by rw [k.rest, h.rest]
  others m hm := (k.others m hm).trans (h.others m hm)
  spacing := k.spacing.trans h.spacing
  holders := k.holders.trans h.holders
  queue := k.queue.trans h.queue

theorem plans (h : StrandOnly n s t) : t.plans = s.plans := by rw [h.rest]
theorem coord (h : StrandOnly n s t) : t.coord = s.coord := by rw [h.rest]
theorem mon (h : StrandOnly n s t) : t.mon = s.mon := by rw [h.rest]
theorem plantLog (h : StrandOnly n s t) : t.plantLog = s.plantLog := by rw [h.rest]
theorem cfg (h : StrandOnly n s t) : t.cfg = s.cfg := by rw [h.rest]
theorem store (h : StrandOnly n s t) : t.store = s.store := by rw [h.rest]
theorem line (h : StrandOnly n s t) : t.line = s.line := by rw [h.rest]
theorem phase (h : StrandOnly n s t) : t.phase = s.phase := by rw [h.rest]
theorem failing (h : StrandOnly n s t) : t.failing = s.failing := by rw [h.rest]
theorem pending (h : StrandOnly n s t) : t.pending = s.pending := by rw [h.rest]

end StrandOnly

section Only

variable (n : Strand) (s : State)

theorem mapBlock_only (f : Block → Block) : StrandOnly n s (mapBlock n f s) :=
  ⟨rfl, fun m h => mapBlock_other n m f s h, rfl, rfl, rfl⟩

theorem mapCtx_only (g : Ctx → Ctx) : StrandOnly n s (mapCtx n g s) := mapBlock_only n s _

theorem putRecord_only (r : StrandRec) : StrandOnly n s (putRecord n r s) :=
  ⟨rfl, fun m h => mapBlock_other n m (fun b => { b with log := logRecord b.log r r.kind r.mark }) s h, rfl, rfl, rfl⟩

theorem raise_only (k : Kind) : StrandOnly n s (raise n k s) := putRecord_only n s _

theorem filter_place (e : QEntry) (q : List QEntry) :
    (place e q).filter (·.strand != e.strand) = q.filter (·.strand != e.strand) := by
  unfold place
  split
  · rw [List.filter_append, List.filter_cons_of_neg (by simp), ← List.filter_append,
      List.takeWhile_append_dropWhile]
  · simp

theorem enqueue_only : StrandOnly n s (enqueue n s) :=
  ⟨rfl, fun _ _ => rfl, rfl, rfl, filter_place { strand := n, cls := classOf (ctxOf s n).kind, time := s.store.time } _⟩

theorem dequeue_only : StrandOnly n s (dequeue n s) :=
  ⟨rfl, fun _ _ => rfl, rfl, rfl, by simp [dequeue]⟩

theorem release_only : StrandOnly n s (release n s) :=
  StrandOnly.trans (t := { s with arb := { s.arb with holders := s.arb.holders.filter (· != n) } })
    ⟨rfl, fun _ _ => rfl, rfl, by simp, rfl⟩ (mapCtx_only n _ _)

/-- Leaving a state sends a dequeue, a release or nothing (R98, R99). -/
theorem leaveFor_cases (next : StrandState) :
    (leaveFor n next s = dequeue n s ∧ (ctxOf s n).state = .waitPermit ∧ next ≠ .ramp)
      ∨ (leaveFor n next s = release n s
          ∧ (((ctxOf s n).state = .ramp ∧ next ≠ .held)
            ∨ ((ctxOf s n).state = .held ∧ (ctxOf s n).holdReturn = some .ramp ∧ next ≠ .ramp)))
      ∨ leaveFor n next s = s := by
  unfold leaveFor
  dsimp only
  split
  · exact .inl ⟨rfl, ‹_›⟩
  · split
    · exact .inr (.inl ⟨rfl, ‹_›⟩)
    · exact .inr (.inr rfl)

theorem leaveFor_only (next : StrandState) : StrandOnly n s (leaveFor n next s) := by
  obtain ⟨h, -, -⟩ | ⟨h, -⟩ | h := leaveFor_cases n s next <;> rw [h]
  · exact dequeue_only n s
  · exact release_only n s
  · exact .refl n s

/-- A message to the arbiter changes at most the permit of a context (R99). -/
theorem ctxOf_leaveFor (next : StrandState) :
    ∃ p, ctxOf (leaveFor n next s) n = { ctxOf s n with permit := p } := by
  obtain ⟨h, -, -⟩ | ⟨h, -⟩ | h := leaveFor_cases n s next <;> rw [h]
  · exact ⟨_, rfl⟩
  · exact ⟨false, by rw [release, ctxOf_mapCtx]; rfl⟩
  · exact ⟨_, rfl⟩

theorem enterTripped_only : StrandOnly n s (enterTripped n s) :=
  (leaveFor_only n s _).trans (mapBlock_only n _ _)

theorem enterIdle_only : StrandOnly n s (enterIdle n s) := mapBlock_only n _ _

theorem enterStopping_only : StrandOnly n s (enterStopping n s) :=
  (leaveFor_only n s _).trans (mapBlock_only n _ _)

theorem enterChange_only : StrandOnly n s (enterChange n s) :=
  (leaveFor_only n s _).trans (mapBlock_only n _ _)

theorem freezeStrand_only : StrandOnly n s (freezeStrand n s) := by
  unfold freezeStrand
  split
  · exact (leaveFor_only n s _).trans (mapCtx_only n _ _)
  · exact .refl n s

theorem holdStrand_only : StrandOnly n s (holdStrand n s) := by
  unfold holdStrand
  split
  · exact (leaveFor_only n s _).trans (mapCtx_only n _ _)
  · exact .refl n s

theorem enterWait_only : StrandOnly n s (enterWait n s) := (mapCtx_only n s _).trans (enqueue_only n _)

theorem enterCast_only : StrandOnly n s (enterCast n s) := by
  unfold enterCast
  exact (leaveFor_only n s _).trans (mapCtx_only n _ _)

/-- What an action can do to its strand (R148): nothing, a trip, a hold, or a stop. -/
theorem applyAction_cases (a : Action) :
    applyAction n a s = s
      ∨ (applyAction n a s = enterTripped n s ∧ a = .trip ∧ (ctxOf s n).state ≠ .idle
          ∧ (ctxOf s n).state ≠ .tripped)
      ∨ (applyAction n a s = holdStrand n s ∧ a = .hold)
      ∨ (applyAction n a s = enterStopping n s ∧ a = .stop ∧ stopsAtOverrun (ctxOf s n) = true) := by
  cases a
  · by_cases h : (ctxOf s n).state = .idle ∨ (ctxOf s n).state = .tripped
    · exact .inl (if_pos h)
    · exact .inr (.inl ⟨if_neg h, rfl, fun e => h (.inl e), fun e => h (.inr e)⟩)
  · exact .inr (.inr (.inl ⟨rfl, rfl⟩))
  · by_cases h : stopsAtOverrun (ctxOf s n) = true
    · exact .inr (.inr (.inr ⟨if_pos h, rfl, h⟩))
    · exact .inl (if_neg h)
  · exact .inl rfl

theorem applyAction_only (a : Action) : StrandOnly n s (applyAction n a s) := by
  obtain h | ⟨h, -⟩ | ⟨h, -⟩ | ⟨h, -⟩ := applyAction_cases n s a <;> rw [h]
  · exact .refl n s
  · exact enterTripped_only n s
  · exact holdStrand_only n s
  · exact enterStopping_only n s

theorem applyActions_only (as : List Action) : StrandOnly n s (applyActions n as s) := by
  unfold applyActions
  induction as generalizing s with
  | nil => exact .refl n s
  | cons a as ih => exact (applyAction_only n s a).trans (ih _)

theorem noteNoPlan_only (r : PlanRef) : StrandOnly n s (noteNoPlan n r s) := by
  unfold noteNoPlan
  split
  · exact raise_only n s _
  · exact .refl n s

theorem beginTundish_only : StrandOnly n s (beginTundish n s) :=
  (mapCtx_only n s _).trans ((mapBlock_only n _ _).trans (noteNoPlan_only n _ _))

theorem beginDip_only : StrandOnly n s (beginDip n s) :=
  (mapCtx_only n s _).trans (noteNoPlan_only n _ _)

end Only

/-! ## The Ramp Generator -/

section Ramp

variable {n : Strand} {s : State} {x : Ramped}

theorem ramped_only {u : State} (h : StrandOnly n s u) (as : List Action) :
    StrandOnly n s (Ramped.mk u as).st := h

theorem rampDeviation_only (h : StrandOnly n s x.st) (k : Kind) : StrandOnly n s (rampDeviation n k x).st :=
  h.trans (raise_only n _ k)

theorem startSlot_only (h : StrandOnly n s x.st) (i : Nat) : StrandOnly n s (startSlot n i x).st := by
  unfold startSlot
  dsimp only
  split
  · exact rampDeviation_only (ramped_only (h.trans (mapCtx_only n _ _)) _) _
  · exact ramped_only (h.trans (mapCtx_only n _ _)) _

theorem reportCap_only (h : StrandOnly n s x.st) (l : Limited) : StrandOnly n s (reportCap n l x).st := by
  unfold reportCap
  split
  · exact rampDeviation_only (ramped_only (h.trans (mapCtx_only n _ _)) _) _
  · exact h

theorem reportClamp_only (h : StrandOnly n s x.st) (l : Limited) : StrandOnly n s (reportClamp n l x).st := by
  unfold reportClamp
  split
  · exact rampDeviation_only (ramped_only (h.trans (mapCtx_only n _ _)) _) _
  · exact h

theorem endSlot_only (h : StrandOnly n s x.st) (r : SlotRun) : StrandOnly n s (endSlot n r x).st := by
  unfold endSlot
  dsimp only
  generalize hy : (if (ctxOf x.st n).target = some (ctxOf x.st n).speed then x
    else rampDeviation n .rampShort x) = y
  have h' : StrandOnly n s y.st := by
    rw [← hy]
    split
    · exact h
    · exact rampDeviation_only h _
  split
  · exact startSlot_only h' _
  · exact h'.trans (enterCast_only n _)

theorem plainStage_only (n : Strand) (x : Int) (s : State) : StrandOnly n s (plainStage n x s) := mapCtx_only n s _

theorem speedStage_only (n : Strand) (s : State) : StrandOnly n s (speedStage n s).st := by
  unfold speedStage
  split
  · unfold rampStage
    dsimp only
    split
    · split
      · exact endSlot_only (reportClamp_only (reportCap_only (ramped_only (mapCtx_only n s _) _) _) _) _
      · exact reportClamp_only (reportCap_only (ramped_only (mapCtx_only n s _) _) _) _
    · exact .refl n s
  · exact reportClamp_only (reportCap_only (ramped_only (mapCtx_only n s _) _) _) _
  all_goals first | exact plainStage_only n _ s | exact .refl n s

end Ramp

/-! ## The stages of a control period -/

section Period

variable (n : Strand) (s : State)

theorem period_only {u : State} (h : StrandOnly n s u) (b : Bool) : StrandOnly n s (Period.mk u b).st := h

theorem unlessCut_only {f : State → Period} (hf : ∀ u, StrandOnly n u (f u).st) {p : Period}
    (h : StrandOnly n s p.st) : StrandOnly n s (unlessCut f p).st := by
  unfold unlessCut
  split
  · exact h
  · exact h.trans (hf _)

theorem deviate_only (k : Kind) : StrandOnly n s (deviate n k s).st :=
  (raise_only n s k).trans (applyAction_only n _ _)

theorem checkCond_only (k : Cond) (f : Finding) : StrandOnly n s (checkCond n k f s).st := by
  unfold checkCond
  split
  · split
    · exact .refl n s
    · exact (raise_only n s _).trans ((mapBlock_only n _ _).trans (applyAction_only n _ _))
  · exact period_only n s (mapBlock_only n s _) _
  · exact .refl n s

theorem checks_only (r : Reading) (prior : List Nat) : StrandOnly n s (checks n r prior s).st := by
  have hs (u : State) : StrandOnly n u (checkSuspect n r prior u).st := by
    unfold checkSuspect
    split
    · split
      · exact deviate_only n u _
      · exact .refl n u
    · exact .refl n u
  have hl (u : State) : StrandOnly n u (checkLag n r u).st := by
    unfold checkLag
    dsimp only
    exact (mapCtx_only n u _).trans (checkCond_only n _ _ _)
  have h (k : Cond) (f : State → Finding) (u : State) : StrandOnly n u (checkCond n k (f u) u).st :=
    checkCond_only n u k _
  unfold checks
  exact unlessCut_only n s hl <| unlessCut_only n s (h _ _) <| unlessCut_only n s hs <|
    unlessCut_only n s (h _ _) <| unlessCut_only n s (h _ _) <| unlessCut_only n s (h _ _) <|
      checkCond_only n s _ _

theorem timeoutTest_only (k : Kind) (limit : Nat) : StrandOnly n s (timeoutTest n k limit s).st := by
  unfold timeoutTest
  split
  · exact .refl n s
  · split
    · unfold advanceTimer
      exact (mapCtx_only n s _).trans ((raise_only n _ k).trans
        ((mapCtx_only n _ _).trans (applyAction_only n _ _)))
    · exact period_only n s (mapCtx_only n s _) _

theorem timedStage_only (r : Reading) : StrandOnly n s (timedStage n r s).st := by
  unfold timedStage
  split
  · unfold fillStage
    split
    · unfold quiet
      dsimp only
      split
      · exact mapCtx_only n s _
      · exact enterWait_only n s
    · exact timeoutTest_only n s _ _
  · unfold quiet dwellStage
    dsimp only
    split
    · exact (mapCtx_only n s _).trans (enterWait_only n _)
    · exact mapCtx_only n s _
  · exact timeoutTest_only n s _ _
  · unfold quiet floorTest
    dsimp only
    split
    · split
      · exact mapCtx_only n s _
      · exact .refl n s
    · exact .refl n s
  all_goals exact .refl n s

theorem rampAndActions_only : StrandOnly n s (rampAndActions n s).st := by
  unfold rampAndActions
  exact (speedStage_only n s).trans (applyActions_only n _ _)

theorem closePeriod_only (r : Reading) : StrandOnly n s (closePeriod n r s) := by
  have h : StrandOnly n s (stopTest n r s) := by
    unfold stopTest
    split
    · exact enterIdle_only n s
    · exact .refl n s
  unfold closePeriod levelStage driveOutputs
  exact h.trans ((mapCtx_only n _ _).trans (mapBlock_only n _ _))

/-- Until the history is refilled check 5 has no prior history (R92). -/
theorem suspectHistory_short {b : Block} (h : b.refilled < 4) : suspectHistory b = [] := if_pos h

/-- Once it is refilled, the prior history is the level history (R75, R92). -/
theorem suspectHistory_full {b : Block} (h : 4 ≤ b.refilled) : suspectHistory b = b.ctx.history :=
  if_neg (Nat.not_lt.mpr h)

/-- The count of a refill stays within 4. -/
theorem refillCount_le {b : Block} (h : b.refilled ≤ 4) (level : Option Nat) : refillCount level b ≤ 4 := by
  unfold refillCount
  split
  · exact Nat.min_le_right _ _
  · exact h

theorem openPeriod_only (r : Reading) : StrandOnly n s (openPeriod n r s) := mapBlock_only n s _

end Period

end Sys2Proof.Machine
end

