-- ==== Sys2Proof/Laws/Events.lean ====
section
/-! SUPPORT. Events that reach every strand, and grant evaluations: what each can do, said once. -/

namespace Sys2Proof.Machine

open Sys2Proof

/-! ## All six strands -/

/-- `t` is `s` but for blocks, arbiter and ALARM. -/
abbrev SameRest (s t : State) : Prop := t = { s with strands := t.strands, arb := t.arb, alarm := t.alarm }

theorem SameRest.trans {s t u : State} (h : SameRest s t) (k : SameRest t u) : SameRest s u := by
  rw [k, h]

/-- An event that reaches all six strands, each part staying with its strand: the rest of the state is kept, and
strand `n`'s part works on its own block as the event found it. -/
theorem forEach_strand {f : Strand → State → State} (hf : ∀ m t, StrandOnly m t (f m t)) (s : State)
    (n : Strand) :
    SameRest s (forEach f s)
      ∧ ∃ t, SameRest s t ∧ t.strands[n] = s.strands[n] ∧ (forEach f s).strands[n] = (f n t).strands[n] := by
  have h0 := hf 0 s
  have h1 := hf 1 (f 0 s)
  have h2 := hf 2 (f 1 (f 0 s))
  have h3 := hf 3 (f 2 (f 1 (f 0 s)))
  have h4 := hf 4 (f 3 (f 2 (f 1 (f 0 s))))
  have h5 := hf 5 (f 4 (f 3 (f 2 (f 1 (f 0 s)))))
  have r1 := h0.rest
  have r2 := SameRest.trans r1 h1.rest
  have r3 := SameRest.trans r2 h2.rest
  have r4 := SameRest.trans r3 h3.rest
  have r5 := SameRest.trans r4 h4.rest
  refine ⟨SameRest.trans r5 h5.rest, ?_⟩
  have e : forEach f s = f 5 (f 4 (f 3 (f 2 (f 1 (f 0 s))))) := rfl
  rw [e]
  match n with
  | 0 =>
    refine ⟨s, rfl, rfl, ?_⟩
    rw [h5.others 0 (by decide), h4.others 0 (by decide), h3.others 0 (by decide), h2.others 0 (by decide),
      h1.others 0 (by decide)]
  | 1 =>
    refine ⟨_, r1, h0.others 1 (by decide), ?_⟩
    rw [h5.others 1 (by decide), h4.others 1 (by decide), h3.others 1 (by decide), h2.others 1 (by decide)]
  | 2 =>
    refine ⟨_, r2, by rw [h1.others 2 (by decide), h0.others 2 (by decide)], ?_⟩
    rw [h5.others 2 (by decide), h4.others 2 (by decide), h3.others 2 (by decide)]
  | 3 =>
    refine ⟨_, r3, by rw [h2.others 3 (by decide), h1.others 3 (by decide), h0.others 3 (by decide)], ?_⟩
    rw [h5.others 3 (by decide), h4.others 3 (by decide)]
  | 4 =>
    refine ⟨_, r4, by rw [h3.others 4 (by decide), h2.others 4 (by decide), h1.others 4 (by decide),
      h0.others 4 (by decide)], ?_⟩
    rw [h5.others 4 (by decide)]
  | 5 =>
    exact ⟨_, r5, by rw [h4.others 5 (by decide), h3.others 5 (by decide), h2.others 5 (by decide),
      h1.others 5 (by decide), h0.others 5 (by decide)], rfl⟩

/-- A law that each strand's part keeps is kept by the whole event. -/
theorem forEach_keeps {P : State → Prop} {f : Strand → State → State} (hf : ∀ m t, P t → P (f m t)) {s : State}
    (h : P s) : P (forEach f s) := by
  unfold forEach
  generalize allStrands = l
  induction l generalizing s with
  | nil => exact h
  | cons m l ih => exact ih (hf m s h)

section Parts

variable (n : Strand) (s : State)

theorem changeBeginAt_only : StrandOnly n s (changeBeginAt n s) := by
  unfold changeBeginAt
  split
  all_goals first | exact enterChange_only n s | exact .refl n s | skip
  split
  · exact .refl n s
  · exact mapBlock_only n s _

theorem seatedAt_only : StrandOnly n s (seatedAt n s) := by
  unfold seatedAt
  split
  · exact beginTundish_only n s
  · exact .refl n s

theorem overrunAt_only : StrandOnly n s (overrunAt n s) := by
  unfold overrunAt
  split
  · exact (raise_only n s _).trans (applyAction_only n _ _)
  · exact .refl n s

theorem outageAt_only : StrandOnly n s (outageAt n s) := by
  unfold outageAt
  split
  · exact (raise_only n s _).trans (applyAction_only n _ _)
  · exact .refl n s

theorem recoverAt_only (measured : Vector Nat 6) : StrandOnly n s (recoverAt measured n s) := by
  have thaw (st : StrandState) (u : State) : StrandOnly n u (thawTo st n u) := mapCtx_only n u _
  have held (h : Option HoldReturn) (u : State) : StrandOnly n u (setHoldReturn n h u) := mapCtx_only n u _
  unfold recoverAt
  split
  · refine (mapBlock_only n s _ : StrandOnly n s (lowerSpeed measured[n] n s)).trans ?_
    unfold recoverInto
    split
    case _ => exact (thaw _ _).trans (held _ _)
    case _ => exact (thaw _ _).trans (held _ _)
    case _ => exact (thaw _ _).trans ((held _ _).trans (enqueue_only n _))
    case _ => exact (thaw _ _).trans ((held _ _).trans ((beginDip_only n _).trans (enqueue_only n _)))
    case _ => exact (thaw _ _).trans ((held _ _).trans ((beginDip_only n _).trans (enqueue_only n _)))
    case _ =>
      unfold recoverHeld
      split
      · exact (thaw _ _).trans ((held _ _).trans (beginDip_only n _))
      · exact thaw _ _
    case _ => exact (thaw _ _).trans (held _ _)
  · exact .refl n s

end Parts

/-! ## Grant evaluations -/

/-- The four conditions of R100. -/
theorem canGrant_iff (s : State) : canGrant s = true ↔ s.mon.state = .normal
    ∧ s.arb.holders.length < s.cfg.plant.pmax ∧ s.arb.spacing = none ∧ s.arb.queue ≠ [] := by
  simp [canGrant, and_assoc]

/-- A law that each grant keeps is kept by an evaluation. -/
theorem evaluateGrants_keeps {P : State → Prop} (hg : ∀ t, canGrant t = true → P t → P (grantHead t)) {s : State}
    (h : P s) : P (evaluateGrants s) := by
  unfold evaluateGrants
  generalize s.arb.queue.length = k
  induction k generalizing s with
  | zero => exact h
  | succ k ih =>
    unfold grantWhile
    split
    · exact ih (hg s ‹_› h)
    · exact h

/-- An evaluation that finds a condition failing grants nothing. -/
theorem evaluateGrants_none {s : State} (h : canGrant s = false) : evaluateGrants s = s := by
  unfold evaluateGrants
  cases s.arb.queue.length <;> simp [grantWhile, h]

theorem strandGrant_only (n : Strand) (s : State) : StrandOnly n s (strandGrant n s) := by
  unfold strandGrant
  split
  · have h := mapCtx_only n s fun c => { c with state := .ramp, permit := true }
    exact (startSlot_only (ramped_only h []) 1).trans (applyActions_only n _ _)
  · exact .refl n s

/-! ## Supply timers -/

/-- What the expiry of the settle timer can do (R133, R136, R137): nothing, or an entry into NORMAL with one grant
evaluation, after the recoveries where the monitor was in SETTLING. -/
theorem settleExpires_cases (measured : Vector Nat 6) (s : State) :
    settleExpires measured s = s
      ∨ (s.mon.settle.isSome = true ∧ s.mon.settleCut = false ∧ s.mon.state = .settling
          ∧ settleExpires measured s = evaluateGrants (forEach (recoverAt measured)
              (stopSettle .normal { s with mon := { s.mon with ride := none } })))
      ∨ (s.mon.settle.isSome = true ∧ s.mon.settleCut = false ∧ s.mon.state = .outage
          ∧ settleExpires measured s = evaluateGrants (stopSettle .normal s)) := by
  unfold settleExpires
  split
  · rename_i h
    split
    · exact .inr (.inl ⟨h.1, h.2, ‹_›, rfl⟩)
    · exact .inr (.inr ⟨h.1, h.2, ‹_›, rfl⟩)
    · exact .inl rfl
    · exact .inl rfl
  · exact .inl rfl

/-- A settle timer that is stopped, or was restarted at the same moment, has no expiry (R137). -/
theorem settleExpires_none {measured : Vector Nat 6} {s : State}
    (h : s.mon.settle = none ∨ s.mon.settleCut = true) : settleExpires measured s = s := by
  obtain h' | ⟨h1, h2, -⟩ | ⟨h1, h2, -⟩ := settleExpires_cases measured s
  · exact h'
  all_goals obtain h | h := h <;> simp [h] at h1 h2

/-- A grant goes to the head of the queue (R100): the strand's part works on a state whose arbiter has taken its own. -/
theorem grantHead_eq {s : State} {e : QEntry} {rest : List QEntry} (h : s.arb.queue = e :: rest) :
    grantHead s = strandGrant e.strand (arbiterGrant e.strand rest s) := by
  simp [grantHead, h]

end Sys2Proof.Machine
end

