-- ==== Sys2Proof/Laws/Service.lean ====
section
/-! SUPPORT. What the taking of a request can do (R179): the request is discarded, waits, is refused by the
interface, or reaches its owner; and the small lemmas of the line and of the numbers on it. -/

namespace Sys2Proof.Machine

open Sys2Proof

/-! ## The line -/

section Line

variable (r : Request) (l : Line)

/-- What taking a request changes in the line: the receive state, the requests handed over, the counter, and the
two notes of R175. -/
theorem lineTaking_fields : (lineTaking r l).addr = l.addr ∧ (lineTaking r l).baud = l.baud
    ∧ (lineTaking r l).parity = l.parity ∧ (lineTaking r l).buffer = l.buffer
    ∧ (lineTaking r l).reply = l.reply ∧ (lineTaking r l).resetArmed = l.resetArmed := by
  unfold lineTaking takeHanded takeArriving beginAnswering countFaulty
  dsimp only
  split
  · exact ⟨rfl, rfl, rfl, rfl, rfl, rfl⟩
  · split <;> split <;> exact ⟨rfl, rfl, rfl, rfl, rfl, rfl⟩

@[simp] theorem lineTaking_addr : (lineTaking r l).addr = l.addr := (lineTaking_fields r l).1
@[simp] theorem lineTaking_baud : (lineTaking r l).baud = l.baud := (lineTaking_fields r l).2.1
@[simp] theorem lineTaking_parity : (lineTaking r l).parity = l.parity := (lineTaking_fields r l).2.2.1
@[simp] theorem lineTaking_reply : (lineTaking r l).reply = l.reply := (lineTaking_fields r l).2.2.2.2.1
@[simp] theorem lineTaking_resetArmed : (lineTaking r l).resetArmed = l.resetArmed :=
  (lineTaking_fields r l).2.2.2.2.2

end Line

section Answer

variable (reply : Reply) (s : State)

@[simp] theorem answer_strands : (answer reply s).strands = s.strands := rfl
@[simp] theorem answer_plans : (answer reply s).plans = s.plans := rfl
@[simp] theorem answer_arb : (answer reply s).arb = s.arb := rfl
@[simp] theorem answer_coord : (answer reply s).coord = s.coord := rfl
@[simp] theorem answer_mon : (answer reply s).mon = s.mon := rfl
@[simp] theorem answer_plantLog : (answer reply s).plantLog = s.plantLog := rfl
@[simp] theorem answer_cfg : (answer reply s).cfg = s.cfg := rfl
@[simp] theorem answer_store : (answer reply s).store = s.store := rfl
@[simp] theorem answer_phase : (answer reply s).phase = s.phase := rfl
@[simp] theorem answer_failing : (answer reply s).failing = s.failing := rfl
@[simp] theorem answer_alarm : (answer reply s).alarm = s.alarm := rfl
@[simp] theorem answer_pending : (answer reply s).pending = s.pending := rfl

/-- An answer under the line of a request just taken is `answered`. -/
theorem answer_taking (r : Request) :
    answer reply { s with line := lineTaking r s.line } = answered r reply s := by
  simp [answer]

end Answer

/-! ## A request reaching its owner -/

section Take

variable {r : Request} {act : State → State} {s : State}

/-- A request outside operation is discarded (R169). -/
theorem request_discarded (h : s.phase ≠ .running) : request r act s = .next s := by
  simp [request, whenRunning, h]

/-- A verb whose line arrives while ANSWERING is faulty input (R175, R179). -/
theorem request_waits (hp : s.phase = .running) (h : mayTake r s.line = false) :
    request r act s = .next { s with line := charAnswering none s.line } := by
  simp [request, whenRunning, serve, hp, h]

/-- The interface's refusal (R179). -/
theorem request_refused {reply : Reply} (h : taken r s) (hr : interfaceRefusal r = some reply) :
    request r act s = .next (answered r reply s) := by
  rw [request, whenRunning, if_pos h.1, serve, if_pos h.2, hr]
  exact congrArg _ (answer_taking reply s r)

/-- A request that passes the interface reaches its owner (R179). -/
theorem request_served (h : taken r s) (hr : interfaceRefusal r = none) :
    request r act s = .next (act { s with line := lineTaking r s.line }) := by
  rw [request, whenRunning, if_pos h.1, serve, if_pos h.2, hr]

end Take

/-! ## Numbers on the line -/

/-- The strand a number 1 to 6 names. -/
@[simp] theorem strandOf_succ (n : Strand) : strandOf (n.val + 1) = some n := by
  simp [strandOf, n.isLt]

/-- The plan a number 1 to 12 names. -/
@[simp] theorem planOf_succ (p : PlanNo) : planOf (p.val + 1) = some p := by
  simp [planOf, p.isLt]

/-- A number that names a plan is its own plus one. -/
theorem planOf_eq_some {k : Nat} {p : PlanNo} : planOf k = some p ↔ k = p.val + 1 := by
  constructor
  · intro h
    unfold planOf at h
    split at h
    · injection h with h
      subst h
      simp only
      omega
    · cases h
  · rintro rfl
    exact planOf_succ p

@[simp] theorem strandInRange_succ (n : Strand) : strandInRange (n.val + 1) = true := by
  have := n.isLt
  simp [strandInRange, within]

@[simp] theorem planInRange_succ (p : PlanNo) : planInRange (p.val + 1) = true := by
  have := p.isLt
  simp [planInRange, within]

/-- The reference to a usable plan (R51). -/
theorem usableRef_eq_some {s : State} {k : Nat} {kind : RestartKind} {ref : PlanRef} :
    usableRef s k kind = some ref ↔ ∃ p : PlanNo, k = p.val + 1 ∧ s.plans[p].state = .valid
      ∧ (∃ h, s.plans[p].header = some h ∧ h.kind = kind) ∧ ref = .plan p s.plans[p].rev := by
  unfold usableRef usable
  constructor
  · intro h
    obtain ⟨p, hp, h⟩ := Option.bind_eq_some_iff.1 h
    split at h
    · rename_i hu
      simp only [Bool.and_eq_true, decide_eq_true_eq, Option.map_eq_some_iff] at hu
      injection h with h
      exact ⟨p, planOf_eq_some.1 hp, hu.1, hu.2, h.symm⟩
    · cases h
  · rintro ⟨p, rfl, hv, ⟨h, hh, hk⟩, rfl⟩
    rw [planOf_succ, Option.bind_some, hv, hh]
    simp [hk]

/-- A BEG leaves an active-condition set without BREAKOUT as it is. -/
@[simp] theorem activeAtBegin_of_absent {a : ActiveSet} (h : a.breakout = false) : activeAtBegin a = a := by
  cases a
  simp_all [activeAtBegin]

end Sys2Proof.Machine
end

