-- ==== Sys2Proof/Tests/Slice0.lean ====
section
/-! SUPPORT. Checks of the model: the ill-formed commands WellFormed refuses, the manual's worked numbers, and for each
statement with hypotheses a state and operands that meet them. -/

namespace Sys2Proof.Tests

open Sys2Proof Sys2Proof.Machine

/-! ## States and helpers -/

/-- The state after a command; the state itself where the command stops the part. -/
def after (c : Instr) (s : State) : State :=
  match exec c s with
  | .next t => t
  | .fault _ => s
  | .refused _ => s

/-- A valid sample without breakout or lost interlock. -/
def sample (level : Int) (measured : Nat) : Sample :=
  { level := level, gaugeValid := true, measured := measured, ready := true, barSeated := true, breakout := false }

/-- The sample of a strand whose gauge does not vouch for its level. -/
def blind : Sample := { sample 900 0 with gaugeValid := false }

/-- The part in NORMAL, the settle timer of its start expired. -/
def calm : State := { State.reset with mon := { State.reset.mon with state := .normal, settle := none } }

/-- Plan 5 of section 1.8, with the dwell given. -/
def billet (dwell : Nat) : Plan :=
  { state := .valid, rev := 7
    header := some { kind := .start, fill := 900, dwell := dwell, count := 2, name := word "BILLET-A" }
    slots := ((Vector.replicate 16 none).set 0
      (some { target := .speed 600, duration := 100, level := 900, step := .auto })).set 1
      (some { target := .speed 1800, duration := 300, level := 1000, step := .auto }) }

/-- A TUNDISH plan of one slot. -/
def refill : Plan :=
  { state := .valid, rev := 13
    header := some { kind := .tundish, fill := 1000, dwell := 0, count := 1, name := word "REFILL-2" }
    slots := (Vector.replicate 16 none).set 0
      (some { target := .resume, duration := 60, level := 1050, step := .auto }) }

/-- `calm` with plan 5 a START plan and plan 4 a TUNDISH plan, named by DEFS.3 and DEFT.3. -/
def planned : State :=
  { calm with
    plans := (calm.plans.set 4 (billet 40)).set 3 refill
    cfg := { calm.cfg with strands := calm.cfg.strands.set 2 { StrandCfg.factory with defs := 5, deft := 4 } } }

/-- `planned` with the context of strand 3 changed. -/
def third (f : Ctx → Ctx) : State := mapCtx 2 f planned

/-- Strand 3 in FILL on plan 5. -/
def filling (dwell timer : Nat) (noted : Bool) : State :=
  { third fun c =>
      { c with state := .fill, kind := some .start, plan := some (.plan 4 7), levelTarget := 900, mode := .closed
               timer := timer, timeoutNoted := noted } with
    plans := planned.plans.set 4 (billet dwell) }

/-- Strand 3 in WAIT_PERMIT, alone in the queue. -/
def waiting : State :=
  { third fun c =>
      { c with state := .waitPermit, kind := some .start, plan := some (.plan 4 7), levelTarget := 900
               mode := .closed } with
    arb := { holders := [], queue := [{ strand := 2, cls := 2, time := 5 }], spacing := none } }

/-- Strand 3 waiting behind two holders, as many as PMAX. -/
def crowded : State := { waiting with arb := { waiting.arb with holders := [0, 1] } }

/-- Strand 3 in RAMP after its grant, its drive following. -/
def ramping : State := after .grantEvaluation waiting

/-- Strand 3 in RAMP at period `k` of slot `i`, with setpoint `v` and target `st`. -/
def rampAt (i k n v st : Nat) : State :=
  mapBlock 2 (fun b => { b with outSpeed := speedOut v })
    (mapCtx 2 (fun c => { c with slot := some { index := i, k := k, s0 := 0, n := n, step := .auto }
                                 target := some st, speed := v }) ramping)

/-- Strand 3 in CAST at 1800 mm/min. -/
def casting : State :=
  mapBlock 2 (fun b => { b with outSpeed := 1800 })
    (third fun c => { c with state := .cast, speed := 28800, target := some 28800, mode := .closed })

/-- Strand 3 casting, with both car lines about to take a rising edge. -/
def bothEdges : State :=
  { casting with
    coord := { casting.coord with takenBegin := false, takenSeated := false, runBegin := 2, runSeated := 2 } }

/-- A tundish change in progress: strand 3 in CHANGE, strand 5 frozen in it, strand 6 stopping. -/
def changing : State :=
  let t := mapCtx 5 (fun c => { c with state := .stopping }) (mapCtx 4
    (fun c => { c with state := .frozen, freezeReturn := some .change })
    (third fun c => { c with state := .change, resume := some 28800 }))
  { t with coord := { state := .changing, window := some 90000, takenBegin := true, takenSeated := false
                      runBegin := 0, runSeated := 2 } }

/-- The same during a dip. -/
def dipped : State :=
  { mapCtx 2 (fun c => { c with state := .frozen, freezeReturn := some .change }) changing with
    mon := { planned.mon with state := .dip, sample := 800, low := 2, ride := some 1500 } }

/-- Strand 3 frozen in RAMP in SETTLING, strand 1 frozen in FILL, the spacing timer running. -/
def settling : State :=
  let t := mapCtx 0 (fun c => { c with state := .frozen, freezeReturn := some .fill, kind := some .start
                                       plan := some (.plan 4 7) })
    (mapCtx 2 (fun c => { c with state := .frozen, freezeReturn := some .ramp, resume := some 9600 }) casting)
  { t with
    mon := { planned.mon with state := .settling, sample := 990, low := 0, ride := some 700, settle := some 0 }
    arb := { holders := [], queue := [], spacing := some 2000 } }

/-- Strand 3 in FILL with the loop CLOSED, four samples of 1000 in its history and `k` of them taken since the loop left
OFF. -/
def refilling (k : Nat) : State :=
  mapBlock 2 (fun b => { b with refilled := k, ctx := { b.ctx with history := [1000, 1000, 1000, 1000] } })
    (filling 40 0 false)

/-- Strand 3 in DWELL on plan 5. -/
def dwelling (timer : Nat) : State := mapCtx 2 (fun c => { c with state := .dwell, timer := timer }) (filling 40 0 false)

/-- Strand 3 in `state` under plan F. -/
def underF (state : StrandState) : State :=
  mapCtx 2 (fun c =>
    { c with state := state, kind := some .dip, plan := some .fallback, resume := some 9600
             holdReturn := if state = .held then some .ramp else none })
    (if state = .waitPermit then waiting else rampAt 1 599 600 9584 9600)

/-- Strand 3 in TRIPPED after a breakout, its log holding the record. -/
def tripped : State := after (.controlPeriod 2 { sample 712 1796 with breakout := true }) casting

/-- The part with an image that SAV has written. -/
def saved : State := after (.saveCompletion true true) (after .sav planned)

/-- Strand 3 casting, then SHUTDOWN with its snapshot, the warning over. -/
def returning : State :=
  after .controlSupplyFailingDeassert
    (after .snapshotCompletion (after .shutdown { casting with store := saved.store }))

/-- The plant log with a record and its alarm mark. -/
def sequenced : State :=
  after (.carLineSampling true true false)
    { calm with coord := { calm.coord with takenSeated := false, runSeated := 2 } }

/-- The action of the steered kind numbered `i + 2` set to `a` (R146, R147). -/
def steer (i : Fin 11) (a : Steer) (s : State) : State :=
  { s with cfg := { s.cfg with plant := { s.cfg.plant with act := s.cfg.plant.act.set i a } } }

/-- Unit 4, between lines. -/
def unit4 : State := { calm with line := { calm.line with addr := 4 } }

/-- A request line as it stands on the line, with its CR. -/
def line (t : String) : Instr := .requestLine (word t ++ [13])

/-! ## Ill-formed commands, one for each check -/

theorem test_wf_code : Instr.wf (.characterReceived 255 false false) = true
    ∧ Instr.wf (.characterReceived 256 false false) = false := by decide

theorem test_wf_line_code : Instr.wf (.requestLine [62, 256, 13]) = false := by decide

theorem test_wf_line_end : Instr.wf (.requestLine [62, 48]) = false ∧ Instr.wf (line ">04 STA *8C") = true := by decide

theorem test_wf_put_empty : Instr.wf (.put []) = false := by decide

theorem test_wf_put_number : Instr.wf (.put [(.plant .gap, .num 999999)]) = true
    ∧ Instr.wf (.put [(.plant .gap, .num 1000000)]) = false := by decide

theorem test_wf_slots_empty : Instr.wf (.plnSlotWrite 1 1 []) = false := by decide

theorem test_wf_key : Instr.wf (.getCfg (.act .breakout)) = false ∧ Instr.wf (.getCfg (.act .driveLag)) = true := by
  decide

theorem test_wf_strand_number : Instr.wf (.hld 0) = false ∧ Instr.wf (.hld 7) = false ∧ Instr.wf (.stp 6) = true
    ∧ Instr.wf (.rel 7 0) = false ∧ Instr.wf (.getStrand 7) = false ∧ Instr.wf (.beg 7 none true true) = false
    ∧ Instr.wf (.res 0 none) = false ∧ Instr.wf (.ack (.strand 7)) = false
    ∧ Instr.wf (.getLog (.strand 0)) = false := by decide

theorem test_wf_plan_number : Instr.wf (.chk 0) = false ∧ Instr.wf (.chk 13) = false ∧ Instr.wf (.plnClr 13) = false
    ∧ Instr.wf (.beg 1 (some 13) true true) = false ∧ Instr.wf (.res 1 (some 0)) = false
    ∧ Instr.wf (.getPlan (.plan 13)) = false ∧ Instr.wf (.getPlan .fallback) = true := by decide

theorem test_wf_position : Instr.wf (.getSlot (.plan 1) 17) = false ∧ Instr.wf (.getSlot .fallback 0) = false
    ∧ Instr.wf (.getSlot (.plan 0) 1) = false := by decide

theorem test_wf_header :
    let h : Header := { kind := .start, fill := 200, dwell := 600, count := 16, name := word "BILLET-A" }
    Instr.wf (.plnHeaderWrite 1 h) = true ∧ Instr.wf (.plnHeaderWrite 13 h) = false
      ∧ Instr.wf (.plnHeaderWrite 1 { h with fill := 199 }) = false
      ∧ Instr.wf (.plnHeaderWrite 1 { h with dwell := 601 }) = false
      ∧ Instr.wf (.plnHeaderWrite 1 { h with count := 17 }) = false
      ∧ Instr.wf (.plnHeaderWrite 1 { h with name := word "A>B" }) = false
      ∧ Instr.wf (.plnHeaderWrite 1 { h with name := word "ABCDEFGHIJKLM" }) = false := by decide

theorem test_wf_slot :
    let x : Slot := { target := .speed 7000, duration := 6000, level := 1400, step := .override 200 }
    Instr.wf (.plnSlotWrite 1 16 [x]) = true ∧ Instr.wf (.plnSlotWrite 1 16 [x, x]) = false
      ∧ Instr.wf (.plnSlotWrite 0 1 [x]) = false ∧ Instr.wf (.plnSlotWrite 1 0 [x]) = false
      ∧ Instr.wf (.plnSlotWrite 1 1 [{ x with target := .speed 7001 }]) = false
      ∧ Instr.wf (.plnSlotWrite 1 1 [{ x with duration := 0 }]) = false
      ∧ Instr.wf (.plnSlotWrite 1 1 [{ x with level := 1401 }]) = false
      ∧ Instr.wf (.plnSlotWrite 1 1 [{ x with step := .override 201 }]) = false := by decide

/-! ## The manual's worked numbers -/

/-- 10.7: the sums of request lines and replies. -/
theorem test_line_checks : checkDigits (word "04 BEG 6 ") = word "C8" ∧ checkDigits (word "04 STA ") = word "8C"
    ∧ checkDigits (word "00 HLD ALL ") = word "71"
    ∧ replyLine 4 okPlain = word "<04 OK *3E" ++ [13, 10]
    ∧ replyLine 4 (noFor "RANGE" [word "LNORM.1"]) = word "<04 NO RANGE LNORM.1 *D5" ++ [13, 10] := by decide

/-- 10.7: BEG 6 turned into BEG 7 on the way is counted and gets no reply. -/
theorem test_line_corrupted : (after (line ">04 BEG 7 *C8") unit4).line.errors = 1
    ∧ (after (line ">04 BEG 7 *C8") unit4).line.reply = none := by decide

/-- 10.7: the STA of unit 4 is handed over. -/
theorem test_line_sta : (after (line ">04 STA *8C") unit4).line.handed = [.sta] := by decide

/-- 10.7: a refused PUT names its key, and the value stays. -/
theorem test_put_refused :
    let t := after (.put [(.strand .lnorm 0, .num 1360)]) (after (line ">04 PUT LNORM.1=1360 *AB") unit4)
    t.line.reply = some (word "<04 NO RANGE LNORM.1 *D5" ++ [13, 10]) ∧ t.cfg = unit4.cfg := by decide

/-- 10.7: GET LINEERR after one faulty line. -/
theorem test_lineerr :
    let t := after .getLineerr (after (line ">04 GET LINEERR *B5") (after (line ">04 BEG 7 *C8") unit4))
    t.line.reply = some (word "<04 OK 1 *8F" ++ [13, 10]) ∧ t.line.errors = 0 := by decide

/-- 10.7: the broadcast hold holds strand 3 in FILL and sends no reply. -/
theorem test_broadcast_hold :
    let t := after (.hldAll true) (after (line ">00 HLD ALL *71") (filling 40 10 false))
    (ctxOf t 2).state = .held ∧ (ctxOf t 2).holdReturn = some .fill ∧ t.line.reply = none := by decide

/-- 3.10, case (b): truncation toward zero, upward and downward, and the rounded outputs. -/
theorem test_auto_candidate : (List.range 7).map (autoCandidate 4800 5600 · 6) = [4800, 4933, 5066, 5200, 5333, 5466, 5600]
    ∧ (List.range 7).map (autoCandidate 28800 27200 · 6) = [28800, 28534, 28267, 28000, 27734, 27467, 27200]
    ∧ [4933, 5200, 28534].map speedOut = [308, 325, 1783] := by decide

/-- 4.7: an ordinary period, and saturation and unwinding. -/
theorem test_loop_periods :
    loopCompute StrandCfg.factory 1800 1000 960 50 = { stopper := 142, integrator := 52 }
      ∧ [(700, 780), (1010, 780), (1040, 780), (1080, 778), (1100, 773)].map
          (fun x : Nat × Int => loopCompute StrandCfg.factory 1800 1000 x.1 x.2)
        = [⟨800, 780⟩, ⟨800, 780⟩, ⟨800, 778⟩, ⟨800, 773⟩, ⟨787, 767⟩] := by decide +kernel

/-- 1.8: the breakout of strand 3 in CAST. -/
theorem test_breakout :
    (ctxOf tripped 2).state = .tripped ∧ tripped.strands[2].outTrip = true ∧ tripped.alarm = true
      ∧ tripped.strands[2].log.first.map (fun r => (r.kind, r.speedOut, r.measured, r.level))
          = some (.breakout, 1800, 1796, some 712) := by decide

/-- 1.8: REL with the record standing, ACK, REL on a moving and on a still drive. -/
theorem test_release :
    let acked := after (.replySent 1000) (after (.ack (.strand 3)) tripped)
    (after (.rel 3 1240) tripped).line.reply = some (replyLine 1 (noFor "PENDING" [])) ∧ acked.alarm = false
      ∧ (after (.rel 3 35) acked).line.reply = some (replyLine 1 (noFor "STATE" []))
      ∧ (ctxOf (after (.rel 3 0) acked) 2).state = .idle := by decide

/-- R33, R150: a BREAKOUT still asserted trips the strand again in its first FILL period, though no period came between. -/
theorem test_breakout_again :
    let idle := after (.replySent 1000) (after (.rel 3 0) (after (.replySent 1000) (after (.ack (.strand 3)) tripped)))
    let filled := after (.beg 3 none true true) idle
    let t := after (.controlPeriod 2 { sample 712 0 with breakout := true }) filled
    tripped.strands[2].active.breakout = true ∧ (ctxOf filled 2).state = .fill ∧ (ctxOf t 2).state = .tripped
      ∧ t.strands[2].log.first.map StrandRec.kind = some .breakout := by decide

/-- 1.8: BEG without and with the bar seated, under DEFS.3. -/
theorem test_beg : (after (.beg 3 none false true) planned).line.reply = some (replyLine 1 (noFor "NOTREADY" []))
    ∧ (ctxOf (after (.beg 3 none true true) planned) 2).plan = some (.plan 4 7) := by decide

/-- 1.8: the valid level 903 ends FILL in DWELL, its level target the fill level. -/
theorem test_fill_ends : (ctxOf (after (.controlPeriod 2 (sample 903 0)) (filling 40 568 false)) 2).state = .dwell
    ∧ (ctxOf (after (.controlPeriod 2 (sample 880 0)) (filling 40 567 false)) 2).timer = 568 := by decide

/-- 1.8: the grant starts slot 1 and the spacing timer of 2.0 s; the first AUTO step of 9600 in 200 periods. -/
theorem test_grant : ramping.arb = { holders := [2], queue := [], spacing := some 2000 }
    ∧ (ctxOf ramping 2).slot = some { index := 1, k := 0, s0 := 0, n := 200, step := .auto }
    ∧ (ctxOf (after (.controlPeriod 2 (sample 900 0)) ramping) 2).speed = 48 := by decide

/-- 2.7: CHK of a header without slots, and a slot write that would pass position 16. -/
theorem test_plan_refusals :
    let draft : Plan := { refill with state := .draft, slots := Vector.replicate 16 none }
    let s := { planned with plans := planned.plans.set 3 draft }
    let x : Slot := { target := .speed 0, duration := 10, level := 900, step := .auto }
    (after (.chk 4) s).line.reply = some (replyLine 1 (noFor "PLAN" [word "SLOT", word "1"]))
      ∧ (after (.plnSlotWrite 4 16 [x, x]) s).line.reply = some (replyLine 1 (noFor "RANGE" [])) := by decide

/-- 2.7: new tundish seated: strand 3 takes DEFT, strand 5 takes plan F with NO_PLAN. -/
theorem test_seated :
    let t := after (.carLineSampling true true false) changing
    (ctxOf t 2).plan = some (.plan 3 13) ∧ (ctxOf t 2).levelTarget = 1000 ∧ (ctxOf t 4).plan = some .fallback
      ∧ t.strands[4].log.first.map StrandRec.kind = some .noPlan := by decide

/-- 8.8: INTERLOCK_LOST steered to HOLD, then LEVEL_HIGH in the same period. -/
theorem test_two_deviations :
    let s := { ramping with
      cfg := { ramping.cfg with plant := { ramping.cfg.plant with act := ramping.cfg.plant.act.set 5 .hold } } }
    let t := after (.controlPeriod 2 { sample 1362 0 with ready := false }) s
    (ctxOf t 2).state = .tripped ∧ t.arb.holders = []
      ∧ t.strands[2].log.first.map (fun r => (r.kind, r.state)) = some (.interlockLost, .ramp)
      ∧ t.strands[2].log.next = [{ kind := .levelHigh, mark := true }] := by decide

/-- R146: the first and last of the kinds that have ACT and ALM items. -/
theorem test_steering_defaults : actionOf Cfg.factory .breakoutSuspect = .trip ∧ actionOf Cfg.factory .permitWait = .note
    ∧ alarmOf Cfg.factory .speedLimit = false ∧ alarmOf Cfg.factory .permitWait = true
    ∧ alarmOf Cfg.factory .supplyDip = false ∧ alarmOf Cfg.factory .storeFault = true := by decide

/-- R92: a fall of more than DROP, 80, over four periods counts from the fifth CLOSED period; BEG begins the refill anew. -/
theorem test_suspect_refill :
    (ctxOf (after (.controlPeriod 2 (sample 900 0)) (refilling 3)) 2).state ≠ .tripped
      ∧ (after (.controlPeriod 2 (sample 900 0)) (refilling 3)).strands[(2 : Strand)].refilled = 4
      ∧ (ctxOf (after (.controlPeriod 2 (sample 919 0)) (refilling 4)) 2).state = .tripped
      ∧ (ctxOf (after (.controlPeriod 2 (sample 920 0)) (refilling 4)) 2).state ≠ .tripped
      ∧ (after (.beg 3 none true true) (mapBlock 2 (fun b => { b with refilled := 4 }) planned)).strands[(2 : Strand)].refilled
          = 0 := by decide

/-- R137: a sample below VOK taken first restarts the settle timer, and its expiry does not follow; a later sample lets the
new run expire. -/
theorem test_settle_restarted :
    let s := after (.busVoltageSampling 919) settling
    let expire (u : State) : State := after (.settleTimerExpiry (Vector.replicate 6 0)) u
    s.mon.settle = some 500 ∧ expire s = s ∧ (expire settling).mon.state = .normal
      ∧ (expire (after (.busVoltageSampling 920) s)).mon.state = .normal := by decide

/-- R137: a ride-through expiry taken ahead of its moment's sample restarts the settle timer, which loses nothing to that
sample. -/
theorem test_ride_first :
    let s := after .rideThroughExpiry { settling with mon := { settling.mon with ride := some 10 } }
    let u := after (.busVoltageSampling 1000) s
    s.mon.state = .outage ∧ (after (.settleTimerExpiry (Vector.replicate 6 0)) s).mon = s.mon ∧ u.mon.settle = some 500
      ∧ (after (.settleTimerExpiry (Vector.replicate 6 0)) u).mon = u.mon
      ∧ (after (.busVoltageSampling 1000) u).mon.settle = some 490 := by decide

/-- Assumption log 13: the reason words of ill-formed arguments. -/
theorem test_reason_words :
    let refused (t reason : String) : Prop := judgeContent (word t) = .refused (noFor reason [])
    refused "GET SLOT 3 ALL" "SYNTAX" ∧ refused "PLN 3 ALL RESUME,1,900,AUTO" "SYNTAX" ∧ refused "HLD 7" "RANGE"
      ∧ refused "REL ALL" "RANGE" ∧ refused "CHK ALL" "RANGE" ∧ refused "PLN X CLR" "SYNTAX"
      ∧ refused "GET FOO 1234567" "UNKNOWN" ∧ refused "GET STRAND 1234567" "SYNTAX" := by decide

/-- 9: after a power-on start GET CAUSE reports both flags and clears them. -/
theorem test_cause : (after .getCause State.reset).line.reply
      = some (replyLine 1 { ok := true, fields := [word "2", word "POWER_ON", word "STORE_INVALID"] })
    ∧ (after .getCause State.reset).store.flags = flagsClear := by decide

/-! ## A state and operands for every statement with hypotheses -/

theorem witness_StepTakesTheFrontOrIdles :
    ({ calm with pending := [.sta, .rst] } : State).pending = .sta :: [.rst] ∧ calm.pending = [] := by decide

theorem witness_EveryCommandAnswersNext : returning.phase ≠ .running ∧ isPowerCommand .sta = false := by decide

theorem witness_PermitAndQueueLawsKept : permitLaw waiting ∧ queueLaw waiting ∧ queueOrdered waiting
    ∧ permitLaw ramping ∧ queueLaw ramping
    ∧ step { waiting with pending := [.grantEvaluation] } = .next { ramping with pending := [] } := by
  refine ⟨by decide, by decide, by decide, by decide, by decide, rfl⟩

theorem witness_HoldersStayWithinPmax : step { waiting with pending := [.grantEvaluation] } = .next ramping
    ∧ 2 ∉ waiting.arb.holders ∧ 2 ∈ ramping.arb.holders ∧ waiting.arb.holders.length ≤ waiting.cfg.plant.pmax
    ∧ waiting.cfg.plant.pmax ≤ ramping.cfg.plant.pmax ∧ settingsLaw waiting ∧ waiting.arb.holders.length ≤ 3 := by
  refine ⟨rfl, ?_⟩
  decide

theorem witness_SupplyAndChangeLawsKept : supplyLaw dipped ∧ changeLaw dipped ∧ dipped.mon.state ≠ .normal
    ∧ dipped.coord.state = .changing ∧ ∃ t, step { dipped with pending := [.sta] } = .next t :=
  ⟨by decide, by decide, by decide, by decide, _, rfl⟩

theorem witness_TimerLawsKept : monitorLaw dipped ∧ coordinatorLaw dipped
    ∧ ∃ t, step { dipped with pending := [.rideThroughExpiry] } = .next t :=
  ⟨by decide, by decide, _, rfl⟩

theorem witness_StoredValuesStayInRange : settingsLaw saved ∧ planTableLaw saved ∧ saved.store.image.data.isSome = true
    ∧ ∃ t, step { saved with pending := [.put [(.plant .gap, .num 0)]] } = .next t :=
  ⟨by decide, by decide, by decide, _, rfl⟩

theorem witness_SetpointLawsKept : settingsLaw casting ∧ speedLaw casting ∧ stopperLaw casting
    ∧ ∃ t, step { casting with pending := [.controlPeriod 2 (sample 1000 1800)] } = .next t :=
  ⟨by decide, by decide, by decide, _, rfl⟩

theorem witness_OutputAndAlarmLawsKept : outputLaw tripped ∧ alarmLaw tripped ∧ tripped.alarm = true
    ∧ outputLaw returning ∧ alarmLaw returning ∧ outputsHeld returning
    ∧ ∃ t, step { tripped with pending := [.ack (.strand 3)] } = .next t :=
  ⟨by decide, by decide, by decide, by decide, by decide, by decide, _, rfl⟩

theorem witness_LogsLawKept : logsLaw tripped ∧ logsLaw sequenced ∧ sequenced.plantLog.first.isSome = true
    ∧ ∃ t, step { tripped with pending := [.shutdown] } = .next t :=
  ⟨by decide, by decide, by decide, _, rfl⟩

theorem witness_ReferenceLawKept : referenceLaw ramping ∧ (ctxOf ramping 2).plan = some (.plan 4 7)
    ∧ ∃ t, step { ramping with pending := [.controlPeriod 2 (sample 900 0)] } = .next t := by
  refine ⟨?_, by decide, _, rfl⟩
  intro n r hr
  have h : ∀ n : Strand, ∀ r ∈ (ctxOf ramping n).plan, r = .plan 4 7 := by decide
  rw [h n r hr]
  exact ⟨by decide, by decide⟩

theorem witness_SpeedArithmeticFollowsChapter3 : (0 : Int) ≤ 320 ∧ (320 : Int) ≤ (64000 : Nat)
    ∧ (320 : Int) ≤ (0 : Nat) + (320 : Nat) ∧ 0 < 6 ∧ 1 ≤ 6 ∧ 4800 ≤ 5600 ∧ 27200 ≤ 28800 := by decide

theorem witness_StopperComputationFollowsR86 : -1000 ≤ (780 : Int) ∧ (780 : Int) ≤ 1000
    ∧ (loopCompute StrandCfg.factory 1800 1000 700 780).integrator = 780
    ∧ (loopCompute StrandCfg.factory 1800 1000 960 1000).stopper ≤ 800 := by decide +kernel

theorem witness_ControlPeriodIsItsStrandsOwn :
    let period (x : Sample) (s : State) : Ctx := ctxOf (after (.controlPeriod 2 x) s) 2
    let stopping := mapCtx 2 (fun c => { c with mode := .off, extremes := some { peak := 950, valley := 900 } })
      (third fun c => { c with state := .stopping })
    ramping.phase = .running ∧ validLevel blind = none ∧ validLevel (sample 1500 0) = some 1500
      ∧ validLevel (sample 0 0) = some 0 ∧ stopperLaw casting ∧ (period (sample 950 1800) casting).mode = .closed
      ∧ (period (sample 950 1800) casting).stopper = (loopCompute StrandCfg.factory 1800 1000 950 0).stopper
      ∧ (period (sample 950 1800) casting).extremes = some { peak := 950, valley := 950 }
      ∧ (period blind casting).mode = .holdLast ∧ (period (sample 899 10) stopping).mode = .off
      ∧ (period (sample 899 10) stopping).extremes = some { peak := 950, valley := 899 }
      ∧ (period (sample 899 9) stopping).state = .idle ∧ (ctxOf planned 2).state = .idle ∧ stopperLaw planned
      ∧ stopperLaw tripped ∧ (ctxOf tripped 2).state = .tripped
      ∧ tripped.strands[(2 : Strand)].active.breakout = true := by
  and_intros <;> decide +kernel

theorem witness_ControlPeriodBoundsTheSetpoint : ramping.phase = .running ∧ stopperLaw ramping ∧ stopperLaw dipped
    ∧ (ctxOf dipped 2).state = .frozen
    ∧ exec (.controlPeriod 2 (sample 900 0)) ramping = .next (after (.controlPeriod 2 (sample 900 0)) ramping)
    ∧ (ctxOf (after (.controlPeriod 2 (sample 900 0)) ramping) 2).state ≠ .tripped := by
  refine ⟨by decide, by decide, by decide, by decide, rfl, by decide⟩

theorem witness_BreakoutTripsTheStrand : casting.phase = .running ∧ (ctxOf casting 2).state ≠ .idle
    ∧ (ctxOf casting 2).state ≠ .tripped ∧ casting.strands[(2 : Strand)].active.breakout = false := by decide

theorem witness_GaugeFaultIsRecordedAtOnset :
    let s := third fun c => { c with state := .held, holdReturn := some .fill, mode := .closed }
    let u := mapBlock 2 (fun b => { b with active := { b.active with gaugeFault := true } }) s
    let w := steer 3 .trip casting
    s.phase = .running ∧ (ctxOf s 2).state = .held ∧ validLevel blind = none ∧ blind.breakout = false
      ∧ blind.ready = true ∧ actionOf s.cfg .gaugeFault ≠ .trip ∧ (ctxOf s 2).mode ≠ .off
      ∧ s.strands[(2 : Strand)].active.gaugeFault = false ∧ u.strands[(2 : Strand)].active.gaugeFault = true
      ∧ (ctxOf u 2).state = .held ∧ (ctxOf u 2).mode ≠ .off
      ∧ (∀ v ∈ [filling 40 0 false, dwelling 0, waiting, ramping],
          v.phase = .running ∧ (ctxOf v 2).mode ≠ .off ∧ v.strands[(2 : Strand)].active.gaugeFault = false
            ∧ actionOf v.cfg .gaugeFault = .hold ∧ (ctxOf (after (.controlPeriod 2 blind) v) 2).state = .held)
      ∧ actionOf w.cfg .gaugeFault = .trip ∧ (ctxOf w 2).state = .cast
      ∧ (ctxOf (after (.controlPeriod 2 blind) w) 2).state = .tripped
      ∧ (∀ v ∈ [casting, third (fun c => { c with state := .stopping }), third (fun c => { c with state := .change }),
            third (fun c => { c with state := .frozen })],
          let t := after (.controlPeriod 2 { blind with measured := 1800 }) v
          actionOf v.cfg .gaugeFault = .hold ∧ holdReturnOf (ctxOf v 2).state = none
            ∧ v.strands[(2 : Strand)].active.gaugeFault = false ∧ (ctxOf t 2).state ≠ .tripped ∧ (ctxOf t 2).state ≠ .held
            ∧ t.strands[(2 : Strand)].log.first.map StrandRec.kind = some .gaugeFault)
      ∧ (let q := steer 3 .note (filling 40 0 false)
         actionOf q.cfg .gaugeFault = .note ∧ (ctxOf q 2).state = .fill
          ∧ (ctxOf (after (.controlPeriod 2 blind) q) 2).state = .fill) := by decide

theorem witness_FillEndsAtTheFillLevel :
    soundSample (filling 40 1198 false) 2 (sample 899 0) 899 ∧ 1198 + 1 < StrandCfg.factory.fillt * 2
      ∧ soundSample (filling 40 1200 true) 2 (sample 899 0) 899 ∧ soundSample (filling 40 0 false) 2 (sample 0 0) 0
      ∧ soundSample (filling 40 0 false) 2 (sample 900 0) 900
      ∧ soundSample (filling 0 0 false) 2 (sample 900 0) 900 ∧ (ctxOf (filling 0 0 false) 2).state = .fill
      ∧ (ctxOf (filling 0 0 false) 2).plan = some (.plan 4 7)
      ∧ (filling 0 0 false).plans[(4 : PlanNo)].header.map Header.dwell = some 0
      ∧ (filling 40 0 false).plans[(4 : PlanNo)].header.map Header.dwell = some 40 := by
  and_intros <;> decide

theorem witness_RampStepFollowsTheLine :
    (∀ x ∈ [(1, 0, 200, 0, 9600), (1, 199, 200, 9552, 9600), (2, 199, 200, 9552, 9600)],
        let s := rampAt x.1 x.2.1 x.2.2.1 x.2.2.2.1 x.2.2.2.2
        soundSample s 2 (sample 900 ((x.2.2.2.1 + 8) / 16)) 900 ∧ (ctxOf s 2).state = .ramp
          ∧ (ctxOf s 2).plan = some (.plan 4 7) ∧ x.2.1 < x.2.2.1 ∧ x.2.2.2.2 ≤ s.cfg.strands[(2 : Strand)].vmax * 16
          ∧ autoCandidate 0 x.2.2.2.2 (x.2.1 + 1) x.2.2.1
              ≤ (ctxOf s 2).speed + s.cfg.strands[(2 : Strand)].amax * 16
          ∧ ((ctxOf s 2).speed : Int)
              ≤ autoCandidate 0 x.2.2.2.2 (x.2.1 + 1) x.2.2.1 + s.cfg.strands[(2 : Strand)].amax * 16)
      ∧ (planned.plans[(4 : PlanNo)].slots[1]).map Slot.target = some (.speed 1800)
      ∧ 1800 * 16 ≤ StrandCfg.factory.vmax * 16 := by
  decide +kernel

theorem witness_StoppingRunsDownToIdle :
    let s (v : Nat) := third fun c => { c with state := .stopping, speed := v }
    soundSample (s 320) 2 { sample 0 1500 with ready := false } 0 ∧ soundSample (s 320) 2 (sample 900 9) 900
      ∧ soundSample (s 321) 2 (sample 900 10) 900
      ∧ (ctxOf (s 320) 2).state = .stopping
      ∧ (ctxOf (after (.controlPeriod 2 (sample 900 9)) (s 320)) 2).state = .idle
      ∧ (ctxOf (after (.controlPeriod 2 (sample 900 10)) (s 320)) 2).state = .stopping
      ∧ (ctxOf (after (.controlPeriod 2 (sample 900 9)) (s 321)) 2).speed = 1 := by
  and_intros <;> decide

theorem witness_TimedPhasesEndAtTheirLimits :
    let wait (timer : Nat) := mapCtx 2 (fun c => { c with timer := timer }) waiting
    let limit := StrandCfg.factory.fillt * 2
    limit = 1200 ∧ StrandCfg.factory.pwait * 2 = 1200 ∧ soundSample (filling 40 1199 false) 2 (sample 899 0) 899
      ∧ (filling 40 1199 false).plans[(4 : PlanNo)].header.map Header.fill = some 900
      ∧ (ctxOf (after (.controlPeriod 2 (sample 899 0)) (filling 40 1199 false)) 2).state = .tripped
      ∧ soundSample (wait 1199) 2 (sample 900 0) 900 ∧ soundSample (wait 1198) 2 (sample 900 0) 900
      ∧ (ctxOf (after (.controlPeriod 2 (sample 900 0)) (wait 1199)) 2).timeoutNoted = true
      ∧ (ctxOf (after (.controlPeriod 2 (sample 900 0)) (wait 1198)) 2).timeoutNoted = false
      ∧ soundSample (dwelling 78) 2 (sample 900 0) 900 ∧ soundSample (dwelling 79) 2 (sample 900 0) 900
      ∧ (ctxOf (dwelling 79) 2).plan = some (.plan 4 7)
      ∧ (ctxOf (after (.controlPeriod 2 (sample 900 0)) (dwelling 78)) 2).state = .dwell
      ∧ (ctxOf (after (.controlPeriod 2 (sample 900 0)) (dwelling 79)) 2).state = .waitPermit := by
  and_intros <;> decide

theorem witness_ChangeCreepsToTheFloor : (ctxOf changing 2).state = .change ∧ changing.phase = .running
    ∧ soundSample changing 2 (sample 399 0) 399 ∧ soundSample changing 2 (sample 400 0) 400
    ∧ (ctxOf (after (.controlPeriod 2 (sample 399 0)) changing) 2).floorReached = true
    ∧ (ctxOf (after (.controlPeriod 2 (sample 400 0)) changing) 2).floorReached = false
    ∧ (ctxOf (after (.controlPeriod 2 (sample 400 0)) changing) 2).speed = 320
    ∧ validLevel blind = none ∧ blind.breakout = false ∧ blind.ready = true
    ∧ actionOf changing.cfg .gaugeFault ≠ .trip := by
  and_intros <;> decide

theorem witness_ChecksRecordAndAct :
    let alone (s : State) (x : Sample) (l : Nat) (k : Kind) : Prop :=
      validSample x l ∧ (findsInterlock s 2 x ↔ k = .interlockLost) ∧ (findsHigh s 2 l ↔ k = .levelHigh)
        ∧ (findsSuspect s 2 l ↔ k = .breakoutSuspect) ∧ (findsLow s 2 l ↔ k = .levelLow)
        ∧ (findsLag s 2 x ↔ k = .driveLag) ∧ (ctxOf s 2).state ≠ .idle ∧ (ctxOf s 2).state ≠ .tripped
    let late (k : Nat) := mapCtx 2 (fun c => { c with lag := k }) ramping
    let held := mapBlock 2 (fun b => { b with active := { b.active with interlockLost := true } })
      (mapCtx 2 (fun c => { c with state := .held, holdReturn := some .ramp }) ramping)
    let low := mapBlock 2 (fun b => { b with active := { b.active with levelLow := true } }) ramping
    alone ramping { sample 900 0 with ready := false } 900 .interlockLost
      ∧ alone held { sample 900 0 with ready := false } 900 .interlockLost
      ∧ isActive held.strands[(2 : Strand)].active .interlockLost = true
      ∧ alone low (sample 599 0) 599 .levelLow ∧ isActive low.strands[(2 : Strand)].active .levelLow = true
      ∧ (ctxOf (after (.controlPeriod 2 (sample 599 0)) low) 2).state = .ramp
      ∧ alone ramping (sample 1350 0) 1350 .levelHigh
      ∧ soundSample ramping 2 (sample 1349 0) 1349 ∧ alone (refilling 4) (sample 919 0) 919 .breakoutSuspect
      ∧ soundSample (refilling 4) 2 (sample 920 0) 920 ∧ soundSample (refilling 3) 2 (sample 900 0) 900
      ∧ alone ramping (sample 599 0) 599 .levelLow ∧ soundSample ramping 2 (sample 600 0) 600
      ∧ alone (late 59) (sample 900 151) 900 .driveLag ∧ soundSample (late 59) 2 (sample 900 150) 900
      ∧ lags (late 58) 2 (sample 900 151) ∧ ¬ findsLag (late 58) 2 (sample 900 151) ∧ rampOrCast casting 2
      ∧ (ctxOf (after (.controlPeriod 2 (sample 900 151)) (late 59)) 2).state = .held
      ∧ (ctxOf (after (.controlPeriod 2 (sample 900 151)) (late 58)) 2).lag = 59
      ∧ (ctxOf (after (.controlPeriod 2 (sample 599 0)) ramping) 2).state = .held := by
  and_intros <;> decide

theorem witness_RampDeviationsActAfterTheStage :
    let x (v : Nat) := sample 900 ((v + 8) / 16)
    let fast := mapCtx 2 (fun c => { c with target := some 64001 }) casting
    let steer (s : State) (a : Steer) : State :=
      { s with cfg := { s.cfg with plant := { s.cfg.plant with act := s.cfg.plant.act.set 8 a } } }
    let capped (target : Target) : State :=
      let s := mapCtx 2 (fun c => { c with resume := some 64001 }) (rampAt 1 199 200 9552 9600)
      let z : Slot := { target := target, duration := 300, level := 1000, step := .auto }
      { s with plans := s.plans.set 4 { billet 40 with slots := (billet 40).slots.set 1 (some z) } }
    (∀ y ∈ [Target.resume, .speed 4001],
        soundSample (capped y) 2 (x 9552) 900
          ∧ (ctxOf (after (.controlPeriod 2 (x 9552)) (capped y)) 2).target = some 64000
          ∧ (after (.controlPeriod 2 (x 9552)) (capped y)).strands[(2 : Strand)].log.first.map
              (fun r => (r.kind, r.slot)) = some (.speedLimit, some 2))
      ∧ soundSample (rampAt 1 199 200 0 9600) 2 (x 0) 900 ∧ soundSample (rampAt 2 199 200 0 9600) 2 (x 0) 900
      ∧ soundSample (rampAt 1 0 2 0 9600) 2 (x 0) 900 ∧ soundSample fast 2 (sample 900 1800) 900
      ∧ (ctxOf (rampAt 1 0 2 0 9600) 2).slot = some { index := 1, k := 0, s0 := 0, n := 2, step := .auto }
      ∧ (ctxOf (rampAt 1 0 2 0 9600) 2).target = some 9600
      ∧ actionOf (steer calm .hold).cfg .rampShort = .hold
      ∧ (ctxOf (after (.controlPeriod 2 (x 0)) (rampAt 1 199 200 0 9600)) 2).speed = 320
      ∧ (ctxOf (after (.controlPeriod 2 (x 0)) (steer (rampAt 1 199 200 0 9600) .hold)) 2).state = .held
      ∧ (ctxOf (after (.controlPeriod 2 (x 0)) (steer (rampAt 2 199 200 0 9600) .hold)) 2).state = .cast
      ∧ (ctxOf (after (.controlPeriod 2 (x 0)) (steer (rampAt 2 199 200 0 9600) .trip)) 2).state = .tripped
      ∧ (after (.controlPeriod 2 (sample 900 1800)) fast).strands[(2 : Strand)].log.first.map StrandRec.kind
          = some .speedLimit := by
  and_intros <;> decide +kernel

theorem witness_RestartsUnderPlanF :
    soundSample (underF .fill) 2 (sample 999 599) 999 ∧ soundSample (underF .fill) 2 (sample 1000 599) 1000
      ∧ (underF .fill).cfg.strands[(2 : Strand)].lnorm = 1000
      ∧ (ctxOf (after (.controlPeriod 2 (sample 1000 599)) (underF .fill)) 2).state = .waitPermit
      ∧ soundSample (underF .waitPermit) 2 (sample 900 0) 900 ∧ soundSample (underF .held) 2 (sample 900 0) 900
      ∧ (ctxOf (underF .held) 2).holdReturn ≠ none ∧ soundSample (underF .ramp) 2 (sample 900 599) 900
      ∧ (ctxOf (underF .ramp) 2).slot = some { index := 1, k := 599, s0 := 0, n := 600, step := .auto }
      ∧ limitedSpeed (underF .ramp) 2 (autoCandidate 0 9600 600 600) = autoCandidate 0 9600 600 600
      ∧ (ctxOf (after (.controlPeriod 2 (sample 900 599)) (underF .ramp)) 2).levelTarget = 1000
      ∧ (underF .waitPermit).arb.queue = [{ strand := 2, cls := 2, time := 5 }]
      ∧ (underF .waitPermit).mon.state = .normal ∧ (underF .waitPermit).arb.spacing = none
      ∧ (ctxOf (underF .waitPermit) 2).plan = some .fallback
      ∧ 9600 ≤ (underF .waitPermit).strands[(2 : Strand)].force.vmax * 16 := by
  and_intros <;> decide +kernel

theorem witness_GrantEvaluationEndsWithAConditionFailing : waiting.phase = .running
    ∧ ∀ e ∈ waiting.arb.queue, e.strand ≠ 0 := by decide

theorem witness_GrantStartsTheHeadOfTheQueue :
    let fast := mapBlock 2 (fun b => { b with force := { b.force with vmax := 599 } }) waiting
    waiting.phase = .running ∧ waiting.mon.state = .normal ∧ waiting.arb.holders.length < waiting.cfg.plant.pmax
      ∧ waiting.arb.spacing = none ∧ waiting.arb.queue = [{ strand := 2, cls := 2, time := 5 }]
      ∧ 0 < waiting.cfg.plant.gap ∧ (ctxOf waiting 2).state = .waitPermit
      ∧ (ctxOf waiting 2).plan = some (.plan 4 7) ∧ waiting.plans[(4 : PlanNo)].slots[0].isSome = true
      ∧ actionOf waiting.cfg .speedLimit = .note ∧ fast.arb = waiting.arb
      ∧ (ctxOf (after .grantEvaluation fast) 2).limitNoted = true
      ∧ (ctxOf (after .grantEvaluation waiting) 2).limitNoted = false
      ∧ actionOf (steer 9 .hold fast).cfg .speedLimit = .hold ∧ actionOf (steer 9 .trip fast).cfg .speedLimit = .trip
      ∧ (ctxOf (after .grantEvaluation (steer 9 .hold fast)) 2).state = .held
      ∧ (after .grantEvaluation (steer 9 .trip fast)).arb.holders = [] := by decide

/-- The same for plan F with a resume speed above the cap, and for two grants in one evaluation under GAP 0. -/
theorem witness_GrantStartsTheHeadOfTheQueue' :
    let slow := mapBlock 2 (fun b => { b with force := { b.force with vmax := 599 } }) (underF .waitPermit)
    let s := mapCtx 0 (fun c => { c with state := .waitPermit, kind := some .dip, plan := some .fallback }) waiting
    let two := { s with
      cfg := { s.cfg with plant := { s.cfg.plant with gap := 0 } }
      arb := { s.arb with queue := { strand := 0, cls := 1, time := 6 } :: s.arb.queue } }
    (ctxOf slow 2).plan = some .fallback ∧ (ctxOf slow 2).resume = some 9600 ∧ slow.arb.queue = waiting.arb.queue
      ∧ (ctxOf (after .grantEvaluation slow) 2).target = some 9584
      ∧ (ctxOf (after .grantEvaluation slow) 2).limitNoted = true
      ∧ two.phase = .running ∧ two.mon.state = .normal ∧ two.arb.holders.length < two.cfg.plant.pmax
      ∧ (ctxOf two 0).state = .waitPermit ∧ (ctxOf two 0).plan = some .fallback
      ∧ (after .grantEvaluation two).arb = { holders := [0, 2], queue := [], spacing := none } := by decide

theorem witness_EnqueuePlacesByClass :
    let q : List QEntry := [{ strand := 0, cls := 1, time := 0 }, { strand := 1, cls := 2, time := 0 }]
    let s := { waiting with arb := { waiting.arb with queue := q } }
    let u := mapCtx 2 (fun c => { c with kind := some .dip }) s
    queueOrdered s ∧ (ctxOf s 2).kind = some .start ∧ queueOrdered u ∧ (ctxOf u 2).kind = some .dip
      ∧ (enqueue 2 s).arb.queue.map QEntry.strand = [0, 1, 2]
      ∧ (enqueue 2 u).arb.queue.map QEntry.strand = [0, 2, 1] := by decide

theorem witness_TimeCountsAndSpacingExpires : calm.phase = .running ∧ calm.store.time ≤ 4294967295
    ∧ calm.arb.spacing = none ∧ ramping.arb.spacing.isSome = true ∧ ramping.arb.queue = []
    ∧ (after .timeCounterTick { calm with store := { calm.store with time := 4294967295 } }).store.time = 0 := by decide

theorem witness_CarLinesOutsideAChange :
    let s := { calm with coord := { calm.coord with takenSeated := false, runSeated := 2 } }
    calm.phase = .running ∧ ¬ (true = true ∧ calm.coord.takenBegin = false ∧ 2 ≤ calm.coord.runBegin)
      ∧ s.coord.state = .noChange ∧ s.coord.takenSeated = false ∧ s.coord.runSeated = 2 := by decide

theorem witness_ChangeBeginTakesEveryStrand :
    let begin (s : State) : State := { s with coord := { s.coord with takenBegin := false, runBegin := 2 } }
    let mixed := mapCtx 4 (fun c => { c with state := .frozen, freezeReturn := some .cast })
      (mapCtx 0 (fun c => { c with state := .cast }) (mapCtx 1 (fun c => { c with state := .tripped }) ramping))
    permitLaw (begin mixed) ∧ queueLaw (begin mixed) ∧ (begin mixed).coord.state = .noChange
      ∧ permitLaw (begin changing) ∧ queueLaw (begin changing) ∧ (begin changing).coord.state = .changing := by decide

theorem witness_SeatedBeginsTundishRestarts : changing.phase = .running ∧ changing.coord.state = .changing
    ∧ changing.coord.takenSeated = false ∧ changing.coord.runSeated = 2 ∧ (ctxOf changing 2).state = .change
    ∧ changing.cfg.strands[(2 : Strand)].deft = 4 ∧ changing.plans[(3 : PlanNo)].state = .valid
    ∧ (ctxOf changing 4).freezeReturn = some .change ∧ changing.cfg.strands[(4 : Strand)].deft = 0
    ∧ bothEdges.phase = .running ∧ bothEdges.coord.state = .noChange ∧ bothEdges.coord.takenBegin = false
    ∧ bothEdges.coord.runBegin = 2 ∧ bothEdges.coord.takenSeated = false ∧ bothEdges.coord.runSeated = 2
    ∧ (ctxOf bothEdges 2).state = .cast ∧ (ctxOf (after (.carLineSampling true true false) bothEdges) 2).state = .fill
    ∧ (ctxOf (after (.carLineSampling true true true) bothEdges) 2).state = .change := by decide

theorem witness_WindowExpiryStopsTheChange : changing.phase = .running ∧ changing.coord.window.isSome = true
    ∧ (ctxOf changing 2).state = .change ∧ (ctxOf changing 0).state = .idle := by decide

theorem witness_DipFreezesTheStrands :
    let s := { ramping with mon := { ramping.mon with low := 1 } }
    s.phase = .running ∧ permitLaw s ∧ queueLaw s ∧ s.mon.state = .normal ∧ 1 ≤ s.mon.low
      ∧ min 849 1500 < s.cfg.plant.vdip ∧ freezeState .ramp = (ctxOf s 2).state := by decide

theorem witness_SamplesMoveTheMonitor : calm.phase = .running ∧ calm.mon.state = .normal ∧ calm.mon.low + 1 < 2
    ∧ dipped.mon.state = .dip ∧ settling.mon.state = .settling ∧ State.reset.mon.state = .outage := by decide

theorem witness_SettleExpiryRecoversTheStrands :
    let free := { settling with arb := { settling.arb with spacing := none } }
    let expired (s : State) : State := after (.settleTimerExpiry (Vector.replicate 6 35)) s
    let usable := { settling with
      plans := settling.plans.set 3 { refill with header := refill.header.map fun h => { h with kind := .dip } }
      cfg := { settling.cfg with
        strands := settling.cfg.strands.set 2 { settling.cfg.strands[(2 : Strand)] with defd := 4 } } }
    supplyLaw State.reset ∧ queueLaw State.reset ∧ State.reset.phase = .running ∧ State.reset.mon.state = .outage
      ∧ State.reset.mon.settle.isSome = true ∧ State.reset.mon.settleCut = false ∧ calm.mon.settle = none
      ∧ (after (.busVoltageSampling 919) settling).mon.settleCut = true ∧ settling.phase = .running
      ∧ settling.mon.state = .settling ∧ settling.mon.settle.isSome = true ∧ settling.mon.settleCut = false
      ∧ settling.arb.spacing.isSome = true ∧ (ctxOf settling 2).freezeReturn = some .ramp
      ∧ (ctxOf settling 0).freezeReturn = some .fill ∧ settling.cfg.strands[(2 : Strand)].defd = 0
      ∧ (ctxOf (expired settling) 2).state = .waitPermit ∧ (ctxOf (expired settling) 2).speed = 560
      ∧ (expired settling).strands[(2 : Strand)].log.first.map StrandRec.kind = some .noPlan
      ∧ (ctxOf (expired free) 2).state = .ramp ∧ usable.plans[(3 : PlanNo)].header.map Header.kind = some .dip
      ∧ usable.cfg.strands[(2 : Strand)].defd = 3 + 1
      ∧ (ctxOf (expired usable) 2).plan = some (.plan 3 13) ∧ (ctxOf (expired usable) 2).levelTarget = 1050 := by decide

theorem witness_RideThroughExpiryTripsTheFrozen : dipped.phase = .running ∧ dipped.mon.ride = some 1500
    ∧ dipped.mon.state = .dip ∧ settling.mon.ride = some 700 ∧ settling.mon.state = .settling
    ∧ (ctxOf dipped 2).state = .frozen := by decide

theorem witness_RecordEntersTheLog : logOk 1 19 tripped.strands[(2 : Strand)].log
    ∧ logOk 1 19 calm.plantLog ∧ calm.plantLog.first = none
    ∧ tripped.strands[(2 : Strand)].log.first.isSome = true := by decide

theorem witness_CharactersAreReceived :
    let inLine (n : Nat) : Line := { calm.line with recv := .inLine, buffer := List.replicate n 65 }
    calm.phase = .running ∧ calm.line.recv = .betweenLines ∧ (inLine 94).recv = .inLine
      ∧ (charInLine (some 126) (inLine 94)).buffer.length = 95 ∧ (charInLine (some 126) (inLine 95)).errors = 1
      ∧ (charInLine (some 31) (inLine 1)).errors = 1 ∧ (charInLine (some 32) (inLine 1)).errors = 0
      ∧ (after .sta calm).line.recv = .answering ∧ (after .sta calm).line.firstChar = true := by decide

theorem witness_RequestLinesAreJudged :
    let good (t : String) : Option Framed := frameOf (word t ++ [13])
    unit4.phase = .running ∧ unit4.line.recv = .betweenLines ∧ good ">04 BEG 7 *C8" = none
      ∧ good ">04 STA *8C" = some { addr := 4, body := word "STA" } ∧ judgeContent (word "STA") = .request .sta
      ∧ judgeContent (word "STAT") = .refused (noFor "UNKNOWN" [])
      ∧ good ">00 HLD ALL *71" = some { addr := 0, body := word "HLD ALL" }
      ∧ good ">00 STP ALL *90" = some { addr := 0, body := word "STP ALL" }
      ∧ good ">00 STA *88" = some { addr := 0, body := word "STA" } := by decide

/-- The same for the CR of a line in IN LINE, and the request handed over by it. -/
theorem witness_RequestLinesAreJudged' :
    let s := { unit4 with line := { unit4.line with recv := .inLine, buffer := word ">04 STA *8C" } }
    let t := after (.characterReceived 13 true false) s
    s.phase = .running ∧ s.line.recv = .inLine ∧ s.line.parity ≠ .even
      ∧ frameOf (s.line.buffer ++ [13]) = some { addr := 4, body := word "STA" }
      ∧ t.line.recv = .answering ∧ t.line.handed = [.sta] := by decide

theorem witness_WrittenLinesReadBack : 99 < 100 ∧ word "STA" ≠ [] ∧ (word "8C").length = 2
    ∧ word "8C" = checkDigits (addressDigits 4 ++ 32 :: word "STA" ++ [32])
    ∧ word "8D" ≠ checkDigits (addressDigits 4 ++ 32 :: word "STA" ++ [32])
    ∧ accepts (.strand .lnorm 0) (.num 1300) = true
    ∧ accepts (.strand .lnorm 0) (.num 1301) = false ∧ accepts (.strand .enabled 5) .no = true
    ∧ accepts (.plant .parity) .even = true ∧ accepts (.plant .baud) (.num 115200) = true
    ∧ accepts (.act .permitWait) .hold = true ∧ accepts (.alm .storeFault) .off = true
    ∧ judgeContent (word "PUT LNORM.1=1300") = .request (.put [(.strand .lnorm 0, .num 1300)]) := by decide

theorem witness_RequestsAreTakenOneAtATime : taken (.put []) calm ∧ (interfaceRefusal (.put [])).isSome = true
    ∧ taken (.hld 7) calm ∧ taken (.chk 13) calm ∧ taken (.plnSlots 13 1 [⟨.resume, 1, 900, .auto⟩]) calm
    ∧ (after .sta calm).phase = .running
    ∧ mayTake .getTime (after .sta calm).line = false := by decide

theorem witness_PlantReadsReportTheState : taken .sta calm ∧ taken .sta (after (line ">04 STA *8C") unit4)
    ∧ taken .getIdent calm ∧ taken .getTime calm ∧ taken .getStore calm ∧ taken .getPermit calm
    ∧ taken (.getCfg (.plant .gap)) calm ∧ getItem calm.cfg (.plant .gap) = some (.num 20) ∧ taken .getCause calm
    ∧ taken .getLineerr calm := by decide

theorem witness_StrandAndPlanReadsReportTheState : taken (.getStrand 6) calm ∧ taken (.getLog (.strand 1)) calm
    ∧ taken (.getLog .plant) calm ∧ taken (.getPlan (.plan 12)) calm ∧ taken (.getSlot (.plan 1) 16) calm
    ∧ taken (.getPlan .fallback) calm ∧ taken (.getSlot .fallback 1) calm := by decide

theorem witness_AcceptedPutsAreApplied : taken (.put [(.strand .enabled 2, .no)]) planned
    ∧ planned.store.saving = false ∧ accepts (.strand .enabled 2) .no = true
    ∧ crossCheck (setItem planned.cfg (.strand .enabled 2) .no) (.strand .enabled 2) = true
    ∧ (ctxOf planned 2).state = .idle ∧ taken (.put [(.plant .pmax, .num 3)]) planned
    ∧ planned.cfg.plant.pmax < 3 ∧ 1 ≤ planned.cfg.plant.pmax
    ∧ taken (.put [(.plant .pmax, .num 3)]) crowded ∧ crowded.store.saving = false ∧ crowded.cfg.plant.pmax = 2
    ∧ (after (.put [(.plant .pmax, .num 3)]) crowded).arb.holders = [0, 1, 2]
    ∧ (ctxOf (after (.put [(.plant .pmax, .num 3)]) crowded) 2).state = .ramp := by decide

/-- R165: LNORM.1 and LHIGH.1 that pass only together, with a key given twice and PMAX raised. -/
theorem witness_AcceptedPutsAreApplied' :
    let both : List (CfgKey × Value) := [(.strand .lnorm 0, .num 900), (.strand .lhigh 0, .num 950)]
    let more := (.plant .gap, .num 0) :: both ++ [(.plant .gap, .num 7), (.plant .pmax, .num 3)]
    crossCheck (setItem planned.cfg (.strand .lhigh 0) (.num 950)) (.strand .lhigh 0) = false
      ∧ taken (.put both) planned ∧ (∀ q ∈ more, accepts q.1 q.2 = true)
      ∧ (∀ q ∈ both, crossCheck (after (.put both) planned).cfg q.1 = true)
      ∧ getItem (after (.put both) planned).cfg (.strand .lhigh 0) = some (.num 950)
      ∧ (∀ q ∈ more, crossCheck (after (.put more) crowded).cfg q.1 = true) ∧ taken (.put more) crowded
      ∧ getItem (after (.put more) crowded).cfg (.plant .gap) = some (.num 7)
      ∧ (after (.put more) crowded).arb.holders = [0, 1, 2] := by decide

theorem witness_PutIsRefusedWhole :
    let refused (a b : CfgKey × Value) (reason key : String) (s : State) : Prop :=
      taken (.put [a, b]) s ∧ (after (.put [a, b]) s).line.reply = some (replyLine 1 (noFor reason [word key]))
    (after .sav calm).store.saving = true ∧ taken (.put [(.plant .gap, .num 0), (.plant .gap, .num 1)])
        (after (.replySent 1000) (after .sav calm))
      ∧ refused (.strand .enabled 2, .no) (.plant .gap, .num 101) "STATE" "ENABLED.3" casting
      ∧ refused (.plant .gap, .num 101) (.strand .enabled 2, .no) "RANGE" "GAP" casting
      ∧ refused (.plant .gap, .num 100) (.strand .enabled 2, .no) "STATE" "ENABLED.3" casting
      ∧ refused (.plant .gap, .num 100) (.plant .pmax, .num 4) "RANGE" "PMAX" casting
      ∧ refused (.plant .vdip, .num 901) (.plant .gap, .num 0) "RANGE" "VDIP" casting
      ∧ refused (.plant .gap, .num 0) (.plant .vok, .num 869) "RANGE" "VOK" casting := by decide

theorem witness_HeaderWritesAndClears :
    let h : Header := { kind := .dip, fill := 1400, dwell := 0, count := 1, name := [] }
    headerInRange h = true ∧ taken (.plnHeader 12 h) planned ∧ taken (.plnClr 1) planned
      ∧ planned.store.saving = false ∧ ∀ n : Strand, (ctxOf planned n).plan = none := by decide

theorem witness_SlotWritesAndPlansInUse :
    let x : Slot := { target := .resume, duration := 1, level := 200, step := .override 1 }
    slotInRange x = true ∧ 1 ≤ 16 ∧ 16 + [x].length ≤ 17 ∧ taken (.plnSlots 5 16 [x]) planned
      ∧ planned.store.saving = false ∧ (∀ n : Strand, (ctxOf planned n).plan = none)
      ∧ taken (.plnSlots 5 16 [x]) ramping ∧ (ctxOf ramping 2).plan = some (.plan 4 7)
      ∧ (after .sav planned).store.saving = true
      ∧ taken (.plnClr 5) (after (.replySent 1000) (after .sav planned)) := by decide

theorem witness_ChkAnswersByItsChecks :
    let bare (h : Option Header) (slots : Vector (Option Slot) 16) : Plan :=
      { state := .draft, rev := 1, header := h, slots := slots }
    let x (t : Target) : Slot := { target := t, duration := 1, level := 900, step := .auto }
    let h (k : RestartKind) : Option Header := some { kind := k, fill := 900, dwell := 0, count := 2, name := [] }
    let both (a b : Target) : Vector (Option Slot) 16 :=
      ((Vector.replicate 16 none).set 0 (some (x a))).set 1 (some (x b))
    taken (.chk 12) planned ∧ planned.store.saving = false ∧ planned.plans[(11 : PlanNo)].state = .empty
      ∧ planned.plans[(4 : PlanNo)].state = .valid ∧ planFault (bare none (Vector.replicate 16 none)) = some [word "HEADER"]
      ∧ planFault (bare (h .start) ((Vector.replicate 16 none).set 0 (some (x (.speed 1)))))
          = some [word "SLOT", word "2"]
      ∧ planFault (bare (h .start) (both (.speed 0) .resume)) = some [word "RESUME"]
      ∧ planFault (bare (h .start) (both (.speed 0) (.speed 1))) = some [word "SLOT", word "1"]
      ∧ planFault (bare (h .start) (both (.speed 1) (.speed 0))) = none
      ∧ planFault (bare (h .tundish) (both (.speed 0) .resume)) = none := by decide

theorem witness_BegMakesItsChecksInOrder : taken (.beg 3 (some 5)) planned ∧ taken (.beg 3 none) planned
    ∧ (ctxOf planned 2).state = .idle ∧ planned.cfg.strands[(2 : Strand)].enabled = true
    ∧ planned.mon.state = .normal ∧ planned.coord.state = .noChange ∧ planned.cfg.strands[(2 : Strand)].defs = 4 + 1
    ∧ planned.plans[(4 : PlanNo)].state = .valid
    ∧ planned.plans[(4 : PlanNo)].header.map Header.kind = some .start
    ∧ planned.plans[(3 : PlanNo)].header.map Header.kind ≠ some .start ∧ taken (.beg 3 none) State.reset
    ∧ State.reset.mon.state ≠ .normal ∧ (ctxOf casting 2).state ≠ .idle ∧ changing.coord.state ≠ .noChange := by decide

theorem witness_HldResAndStpMoveOneStrand :
    let held (h : HoldReturn) : State :=
      third fun c => { c with state := .held, holdReturn := some h, kind := some .start, plan := some (.plan 4 7) }
    taken (.hld 3) waiting ∧ holdState .waitPermit = (ctxOf waiting 2).state ∧ taken (.hld 3) casting
      ∧ (ctxOf casting 2).state = .cast ∧ taken (.stp 3) ramping ∧ (ctxOf ramping 2).state = .ramp
      ∧ taken (.stp 3) calm ∧ (ctxOf calm 2).state = .idle ∧ taken (.res 3 none) (held .fill)
      ∧ (ctxOf (held .fill) 2).holdReturn = some .fill ∧ taken (.res 3 none) (held .waitPermit)
      ∧ (ctxOf (held .waitPermit) 2).holdReturn = some .waitPermit ∧ taken (.res 3 none) casting
      ∧ taken (.res 3 (some 12)) (held .fill) := by decide

theorem witness_AllVerbsTakeEveryStrand : taken (.hldAll true) ramping ∧ taken (.hldAll false) ramping
    ∧ taken (.stpAll true) ramping ∧ taken (.stpAll false) ramping
    ∧ holdState .ramp = (ctxOf ramping 2).state := by decide

theorem witness_RelAndAckFollowTheirChecks :
    let acked := after (.replySent 1000) (after (.ack (.strand 3)) tripped)
    taken (.rel 3) casting ∧ (ctxOf casting 2).state ≠ .tripped ∧ taken (.rel 3) tripped
      ∧ tripped.strands[(2 : Strand)].log.first ≠ none ∧ taken (.rel 3) acked ∧ (ctxOf acked 2).state = .tripped
      ∧ acked.strands[(2 : Strand)].log.first = none ∧ taken (.ack (.strand 3)) tripped
      ∧ taken (.ack .plant) sequenced
      ∧ (after (.rel 3 10) acked).line.reply = some (replyLine 1 (noFor "STATE" []))
      ∧ (after (.rel 3 9) acked).line.reply = some (replyLine 1 okPlain) := by decide

theorem witness_SavesRunToTheirCompletion :
    let saving := after (.replySent 1000) (after .sav planned)
    let worn (n : Nat) : State := { calm with store := { calm.store with image := { calm.store.image with count := n } } }
    taken .sav calm ∧ taken .sav saving ∧ saving.store.saving = true ∧ taken .sav (worn 50000)
      ∧ (after .sav (worn 50000)).line.reply = some (replyLine 1 (noFor "WEAR" []))
      ∧ (after .sav (worn 49999)).store.saving = true ∧ calm.store.saving = false
      ∧ calm.store.image.count ≠ 50000 := by decide

theorem witness_RepliesEndWithReleaseOrLineReset :
    taken .rst calm ∧ (∀ n : Strand, (ctxOf calm n).state = .idle) ∧ taken .rst casting
      ∧ (ctxOf casting 2).state ≠ .idle ∧ (after .sav calm).store.saving = true
      ∧ taken .rst (after (.replySent 1000) (after .sav calm)) ∧ calm.line.reply = none
      ∧ (after .sta calm).line.reply.isSome = true ∧ (after .sta calm).line.resetArmed = false
      ∧ (after .rst calm).line.reply.isSome = true ∧ (after .rst calm).line.resetArmed = true
      ∧ (after .rst (after (.replySent 1000) saved)).line.resetArmed = true ∧ saved.store.image.valid = true := by decide

theorem witness_loads : loads calm.store.image { plans := Vector.replicate 12 Plan.blank, cfg := Cfg.factory }
    ∧ loads saved.store.image { plans := saved.plans, cfg := saved.cfg } :=
  ⟨⟨fun h => by revert h; decide, fun _ => ⟨rfl, rfl⟩⟩, ⟨fun _ => rfl, fun h => by revert h; decide⟩⟩

theorem witness_ShutdownForcesOutputsAndSnapshots : casting.phase = .running ∧ (after .shutdown casting).phase = .shutdown
    ∧ (after (.powerApplication true) casting).phase = .holding := by decide

theorem witness_ControlPowerComesAndGoes : (after .shutdown casting).phase = .shutdown
    ∧ (after .shutdown casting).store.snapshot.writing = true ∧ calm.phase ≠ .shutdown ∧ calm.phase ≠ .unpowered := by
  decide

theorem witness_PowerOnStartsAfresh :
    let s := after (.powerApplication false) (after .controlPowerLoss calm)
    s.phase = .holding ∧ s.failing = false ∧ s.store.snapshot.valid = false ∧ calm.phase = .running
      ∧ loads s.store.image { plans := Vector.replicate 12 Plan.blank, cfg := Cfg.factory } :=
  ⟨by decide, by decide, by decide, by decide, fun h => by revert h; decide, fun _ => ⟨rfl, rfl⟩⟩

theorem witness_PowerReturnTripsTheRunning :
    returning.phase = .shutdown ∧ returning.failing = false ∧ permitLaw returning
      ∧ returning.store.snapshot.valid = true
      ∧ returning.store.snapshot.data.map (fun d => (d.ctxs[(2 : Strand)].state, d.ctxs[(0 : Strand)].state))
          = some (.cast, .idle)
      ∧ loads returning.store.image { plans := saved.plans, cfg := saved.cfg } :=
  ⟨by decide, by decide, by decide, by decide, by decide, fun _ => rfl, fun h => by revert h; decide⟩

end Sys2Proof.Tests
end

section
/-! SUPPORT. What the shared operations leave in the three places they can touch: the block of their strand, the arbiter
and ALARM. With `StrandOnly` these equations give the whole next state. -/

namespace Sys2Proof.Machine

open Sys2Proof

/-- The next state of an operation that stays with its strand, from what it leaves in the arbiter and on ALARM. -/
theorem StrandOnly.eq_with {n : Strand} {s t : State} (h : StrandOnly n s t) {a : Arbiter} {b : Bool} (ha : t.arb = a)
    (hb : t.alarm = b) : t = { s with strands := t.strands, arb := a, alarm := b } := by
  subst ha hb
  exact h.rest

/-! ## Records -/

section Records

variable (n : Strand) (s : State) (r : StrandRec) (k : Kind)

@[simp] theorem putRecord_val : (putRecord n r s).strands[n.val]
    = { s.strands[n.val] with log := logRecord s.strands[n.val].log r r.kind r.mark } := by
  simp [putRecord, mapBlock]

@[simp] theorem putRecord_arb : (putRecord n r s).arb = s.arb := rfl
@[simp] theorem putRecord_alarm : (putRecord n r s).alarm = (s.alarm || r.mark) := rfl

@[simp] theorem ctxOf_putRecord : ctxOf (putRecord n r s) n = ctxOf s n := by
  simp [ctxOf]

@[simp] theorem raise_val : (raise n k s).strands[n.val]
    = { s.strands[n.val] with
        log := logRecord s.strands[n.val].log (strandRecord s n k (observed s n)) k (alarmOf s.cfg k) } :=
  putRecord_val n s _

@[simp] theorem ctxOf_raise : ctxOf (raise n k s) n = ctxOf s n := ctxOf_putRecord n s _
@[simp] theorem raise_arb : (raise n k s).arb = s.arb := rfl
@[simp] theorem raise_alarm : (raise n k s).alarm = (s.alarm || alarmOf s.cfg k) := rfl
@[simp] theorem raise_cfg : (raise n k s).cfg = s.cfg := rfl
@[simp] theorem raise_store : (raise n k s).store = s.store := rfl
@[simp] theorem raise_plans : (raise n k s).plans = s.plans := rfl

end Records

/-! ## Messages to the arbiter -/

/-- A strand in `c` gives a permit back as it goes on to `next` (R99). -/
abbrev givesBack (c : Ctx) (next : StrandState) : Prop :=
  (c.state = .ramp ∧ next ≠ .held) ∨ (c.state = .held ∧ c.holdReturn = some .ramp ∧ next ≠ .ramp)

/-- A strand in `c` leaves the queue as it goes on to `next` (R98). -/
abbrev leavesQueue (c : Ctx) (next : StrandState) : Prop := c.state = .waitPermit ∧ next ≠ .ramp

/-- The permit a strand in `c` holds once it goes on to `next`. -/
def permitAfter (c : Ctx) (next : StrandState) : Bool := if givesBack c next then false else c.permit

/-- The arbiter once strand `n` in `c` goes on to `next`. -/
def arbAfter (n : Strand) (c : Ctx) (next : StrandState) (a : Arbiter) : Arbiter :=
  { a with
    queue := if leavesQueue c next then a.queue.filter (·.strand != n) else a.queue
    holders := if givesBack c next then a.holders.filter (· != n) else a.holders }

section Leaving

variable (n : Strand) (next : StrandState) (s : State)

theorem leaveFor_block : (leaveFor n next s).strands[n]
    = { s.strands[n] with ctx := { ctxOf s n with permit := permitAfter (ctxOf s n) next } } := by
  unfold leaveFor
  dsimp only
  split
  · rename_i h
    have hp : permitAfter (ctxOf s n) next = (ctxOf s n).permit := if_neg (by simp [givesBack, h.1])
    rw [hp]
    rfl
  · split
    · rename_i h
      have hp : permitAfter (ctxOf s n) next = false := if_pos h
      rw [hp, release, mapCtx_block]
      rfl
    · rename_i h
      have hp : permitAfter (ctxOf s n) next = (ctxOf s n).permit := if_neg h
      rw [hp]
      rfl

theorem leaveFor_arb : (leaveFor n next s).arb = arbAfter n (ctxOf s n) next s.arb := by
  unfold leaveFor arbAfter
  dsimp only
  split
  · rename_i h
    have hg : ¬ givesBack (ctxOf s n) next := by simp [givesBack, h.1]
    simp only [if_neg hg]
    rfl
  · split <;> rfl

theorem leaveFor_alarm : (leaveFor n next s).alarm = s.alarm := by
  obtain ⟨h, -⟩ | ⟨h, -⟩ | h := leaveFor_cases n s next <;> rw [h] <;> rfl

theorem enterTripped_block : (enterTripped n s).strands[n] = { s.strands[n] with
    ctx := { toTripped (ctxOf s n) with permit := permitAfter (ctxOf s n) .tripped }
    outSpeed := 0, outStopper := 0, outTrip := true } := by
  unfold enterTripped
  rw [mapBlock_same, leaveFor_block]
  rfl

theorem enterStopping_block : (enterStopping n s).strands[n] = { s.strands[n] with
    ctx := { toStopping (ctxOf s n) with permit := permitAfter (ctxOf s n) .stopping }, outStopper := 0 } := by
  unfold enterStopping
  rw [mapBlock_same, leaveFor_block]
  rfl

theorem enterChange_block : (enterChange n s).strands[n] = { s.strands[n] with
    ctx := { joinChange (ctxOf s n) with state := .change, lag := 0, permit := permitAfter (ctxOf s n) .change }
    outStopper := 0 } := by
  unfold enterChange
  rw [mapBlock_same, leaveFor_block]
  rfl

theorem holdReturnOf_eq_some {st : StrandState} {g : HoldReturn} : holdReturnOf st = some g ↔ holdState g = st := by
  cases st <;> cases g <;> simp [holdReturnOf, holdState]

theorem freezeReturnOf_eq_some {st : StrandState} {f : FreezeReturn} :
    freezeReturnOf st = some f ↔ freezeState f = st := by
  cases st <;> cases f <;> simp [freezeReturnOf, freezeState]

/-- A strand that may be held keeps its permit and leaves the queue (R21). -/
theorem holdStrand_block {g : HoldReturn} (h : holdState g = (ctxOf s n).state) : (holdStrand n s).strands[n]
    = { s.strands[n] with ctx := { ctxOf s n with state := .held, holdReturn := some g, lag := 0 } } := by
  have hg : ¬ givesBack (ctxOf s n) .held := by cases g <;> simp [givesBack, ← h, holdState]
  unfold holdStrand
  rw [holdReturnOf_eq_some.2 h]
  dsimp only
  rw [mapCtx_block, ctxOf, leaveFor_block, permitAfter, if_neg hg]

theorem holdStrand_arb {g : HoldReturn} (h : holdState g = (ctxOf s n).state) : (holdStrand n s).arb
    = if g = .waitPermit then { s.arb with queue := s.arb.queue.filter (·.strand != n) } else s.arb := by
  unfold holdStrand
  rw [holdReturnOf_eq_some.2 h]
  refine (leaveFor_arb n .held s).trans ?_
  cases g <;> simp [arbAfter, givesBack, leavesQueue, ← h, holdState]

theorem holdStrand_alarm : (holdStrand n s).alarm = s.alarm := by
  unfold holdStrand
  split
  · exact leaveFor_alarm n .held s
  · rfl

theorem holdStrand_none (h : ∀ g, holdState g ≠ (ctxOf s n).state) : holdStrand n s = s := by
  unfold holdStrand
  split
  · rename_i g hg
    exact absurd (holdReturnOf_eq_some.1 hg) (h g)
  · rfl

theorem freezeStrand_block {f : FreezeReturn} (h : freezeState f = (ctxOf s n).state) : (freezeStrand n s).strands[n]
    = { s.strands[n] with
        ctx := { ctxOf s n with
          state := .frozen, freezeReturn := some f, lag := 0, permit := permitAfter (ctxOf s n) .frozen
          resume := freezeResume (ctxOf s n) } } := by
  unfold freezeStrand
  rw [freezeReturnOf_eq_some.2 h]
  dsimp only
  rw [mapCtx_block, ctxOf, leaveFor_block]
  rfl

end Leaving

end Sys2Proof.Machine
end

section
/-! PROOF. The changes an event can make at a strand, said once: `StageMove` for stages 2 to 4 of a control period,
`BlockMove` for every event, and `StrandRun`, the chains of them that the shared operations make. -/

namespace Sys2Proof.Machine

open Sys2Proof

/-! ## Elementary changes of one block -/

/-- A change that stages 2 to 4 of a control period make at a block, but for the setpoint of stage 4. -/
inductive StageMove : Block → Block → Prop
  | notes (b : Block) (active : ActiveSet) (lag timer : Nat) (noted floor rate limit permit : Bool) :
      StageMove b { b with
        active := active
        ctx := { b.ctx with
          lag := lag, timer := timer, timeoutNoted := noted, floorReached := floor, rateNoted := rate
          limitNoted := limit, permit := permit } }
  | dwell (b : Block) (h : b.ctx.state = .fill) : StageMove b { b with ctx := { b.ctx with state := .dwell, timer := 0 } }
  | wait (b : Block) (lt : Nat) (h : b.ctx.state = .fill ∨ b.ctx.state = .dwell) :
      StageMove b { b with
        ctx := { b.ctx with state := .waitPermit, timer := 0, timeoutNoted := false, levelTarget := lt } }
  | hold (b : Block) (g : HoldReturn) (h : holdReturnOf b.ctx.state = some g) :
      StageMove b { b with ctx := { b.ctx with state := .held, holdReturn := some g, lag := 0 } }
  | trip (b : Block) (h : b.ctx.state ≠ .idle) :
      StageMove b { b with ctx := toTripped b.ctx, outSpeed := 0, outStopper := 0, outTrip := true }
  | slot (b : Block) (r : SlotRun) (raw lt : Nat) (capped : Bool) (h : b.ctx.state = .ramp) (hr : r.s0 = b.ctx.speed) :
      StageMove b { b with
        ctx := { b.ctx with
          slot := some r, target := some (min raw (b.force.vmax * 16)), levelTarget := lt
          rateNoted := false, limitNoted := capped } }
  | cast (b : Block) (lt : Nat) (h : b.ctx.state = .ramp) :
      StageMove b { b with
        ctx := { b.ctx with
          state := .cast, kind := none, plan := none, resume := none, slot := none, levelTarget := lt
          rateNoted := false, limitNoted := false } }

/-- The block as the opening of a period on `r` leaves it, with the settings `g` in force. -/
def openedBlock (g : StrandCfg) (r : Reading) (b : Block) : Block :=
  { b with
    force := g
    sampled := some (r.measured, r.level)
    refilled := refillCount r.level b
    ctx := takeLevel r.level (if followsNorm b.ctx then { b.ctx with levelTarget := g.lnorm } else b.ctx) }

/-- The slot a ramp period leaves: the one there is, or the same one period on. -/
def slotGoesOn (old new : Option SlotRun) : Prop := new = old ∨ ∃ r, old = some r ∧ new = some { r with k := r.k + 1 }

/-- A change that an event makes at a block, `g` being the settings in working memory. -/
inductive BlockMove (g : StrandCfg) : Block → Block → Prop
  | stage {b b' : Block} (h : StageMove b b') : BlockMove g b b'
  | opened (r : Reading) (b : Block) : BlockMove g b (openedBlock g r b)
  | speed (b : Block) (x : Int) (slot : Option SlotRun) (hs : slotGoesOn b.ctx.slot slot)
      (hi : b.ctx.state ≠ .idle) (ht : b.ctx.state ≠ .tripped) :
      BlockMove g b { b with
        ctx := { b.ctx with
          slot := slot, speed := (commonSteps (b.force.vmax * 16) (b.force.amax * 16) b.ctx.speed x).speed } }
  | idle (b : Block) (h : b.ctx.state = .stopping) (h0 : b.ctx.speed = 0) :
      BlockMove g b { b with ctx := toIdle b.ctx, outStopper := 0 }
  | loop (r : Reading) (b : Block) : BlockMove g b { b with ctx := loopStep b.force r b.ctx }
  | driven (b : Block) :
      BlockMove g b { b with
        outSpeed := speedOut b.ctx.speed, outStopper := b.ctx.stopper, outTrip := decide (b.ctx.state = .tripped) }
  | grant (b : Block) (h : b.ctx.state = .waitPermit) :
      BlockMove g b { b with ctx := { b.ctx with state := .ramp, permit := true } }
  | stop (b : Block) (hi : b.ctx.state ≠ .idle) (ht : b.ctx.state ≠ .tripped) :
      BlockMove g b { b with ctx := toStopping b.ctx, outStopper := 0 }
  | change (b : Block) (hi : b.ctx.state ≠ .idle) (ht : b.ctx.state ≠ .tripped) :
      BlockMove g b { b with ctx := { joinChange b.ctx with state := .change, lag := 0 }, outStopper := 0 }
  | rewrite (b : Block) (h : b.ctx.state = .frozen) :
      BlockMove g b { b with ctx := { joinChange b.ctx with freezeReturn := some .change }, outStopper := 0 }
  | tundish (b : Block) (r : PlanRef) (lt : Nat) (h : stopsAtOverrun b.ctx = true) :
      BlockMove g b (openLoop lt { b with
        ctx := { restartCtx .tundish r b.ctx with
          state := if b.ctx.state = .change then .fill else b.ctx.state
          freezeReturn := if b.ctx.state = .change then b.ctx.freezeReturn else some .fill } })
  | dip (b : Block) (r : PlanRef) (lt : Nat) :
      BlockMove g b { b with ctx := { restartCtx .dip r b.ctx with levelTarget := lt } }
  | start (b : Block) (r : PlanRef) (lt : Nat) (h : b.ctx.state = .idle) :
      BlockMove g b (openLoop lt { b with
        ctx := { restartCtx .start r b.ctx with state := .fill }, active := activeAtBegin b.active })
  | freeze (b : Block) (f : FreezeReturn) (h : freezeReturnOf b.ctx.state = some f) :
      BlockMove g b { b with
        ctx := { b.ctx with state := .frozen, freezeReturn := some f, resume := freezeResume b.ctx, lag := 0 } }
  | thaw (b : Block) (st : StrandState) (h : b.ctx.state = .frozen)
      (hs : st = .fill ∨ st = .dwell ∨ st = .waitPermit ∨ st = .held
        ∨ (st = .change ∧ b.ctx.freezeReturn = some .change)) :
      BlockMove g b { b with ctx := { b.ctx with state := st, freezeReturn := none, slot := none, target := none } }
  | holdReturn (b : Block) (h : Option HoldReturn) : BlockMove g b { b with ctx := { b.ctx with holdReturn := h } }
  | lower (b : Block) (m : Nat) :
      BlockMove g b { b with
        ctx := { b.ctx with speed := min b.ctx.speed (limitMeasured m * 16) }
        outSpeed := speedOut (min b.ctx.speed (limitMeasured m * 16)) }
  | resume (b : Block) (h : HoldReturn) (lt : Nat) (hs : b.ctx.state = .held) :
      BlockMove g b { b with ctx := { b.ctx with state := holdState h, holdReturn := none, levelTarget := lt } }
  | untrip (b : Block) (h : b.ctx.state = .tripped) :
      BlockMove g b { b with ctx := toIdle b.ctx, outStopper := 0, outTrip := false }

/-! ## Chains of changes at one strand -/

/-- One elementary change of the state by an event at strand `n`: its block changed as `R` allows, a record in its log
with the ALARM the mark asserts, or a message taken by the arbiter. -/
inductive StrandMove (R : Block → Block → Prop) (n : Strand) : State → State → Prop
  | block (s : State) (f : Block → Block) (h : R s.strands[n] (f s.strands[n])) : StrandMove R n s (mapBlock n f s)
  | record (s : State) (r : StrandRec) : StrandMove R n s (putRecord n r s)
  | arbiter (s : State) (a : Arbiter) : StrandMove R n s { s with arb := a }

/-- A chain of elementary changes at strand `n`. -/
abbrev StrandRun (R : Block → Block → Prop) (n : Strand) : State → State → Prop :=
  Relation.ReflTransGen (StrandMove R n)

section Runs

variable {R : Block → Block → Prop} {n : Strand} {s t u : State}

theorem StrandRun.block (f : Block → Block) (h : R s.strands[n] (f s.strands[n])) : StrandRun R n s (mapBlock n f s) :=
  .single (.block s f h)

theorem StrandRun.ctx (g : Ctx → Ctx) (h : R s.strands[n] { s.strands[n] with ctx := g (ctxOf s n) }) :
    StrandRun R n s (mapCtx n g s) :=
  .single (.block s _ h)

theorem StrandRun.arbiter (a : Arbiter) : StrandRun R n s { s with arb := a } := .single (.arbiter s a)

theorem StrandRun.mono {R' : Block → Block → Prop} (hR : ∀ b b', R b b' → R' b b') (h : StrandRun R n s t) :
    StrandRun R' n s t := by
  induction h with
  | refl => exact .refl
  | tail _ hm ih =>
    refine ih.tail ?_
    cases hm with
    | block f h => exact .block _ f (hR _ _ h)
    | record r => exact .record _ r
    | arbiter a => exact .arbiter _ a

/-- A property of the block that each change of `R` keeps, and that says nothing of the log, is kept by a chain. -/
theorem StrandRun.keeps {Q : Block → Prop} (hR : ∀ b b', R b b' → Q b → Q b')
    (hlog : ∀ b l, Q b → Q { b with log := l }) (h : StrandRun R n s t) : Q s.strands[n] → Q t.strands[n] := by
  induction h with
  | refl => exact id
  | tail _ hm ih =>
    intro hq
    cases hm with
    | block f h => exact (mapBlock_same n f _).symm ▸ hR _ _ h (ih hq)
    | record r =>
      have e := mapBlock_same n (fun b => { b with log := logRecord b.log r r.kind r.mark })
      exact (e _).symm ▸ hlog _ _ (ih hq)
    | arbiter a => exact ih hq

theorem raise_run (n : Strand) (k : Kind) (s : State) : StrandRun R n s (raise n k s) := .single (.record s _)

theorem enqueue_run (n : Strand) (s : State) : StrandRun R n s (enqueue n s) := .arbiter _

theorem dequeue_run (n : Strand) (s : State) : StrandRun R n s (dequeue n s) := .arbiter _

end Runs

/-! ## The shared operations of stages 2 to 4 -/

section Stage

variable {n : Strand} {s : State}

theorem release_run (n : Strand) (s : State) : StrandRun StageMove n s (release n s) :=
  .trans (StrandRun.arbiter _) (StrandRun.ctx _ (.notes _ _ _ _ _ _ _ _ false))

theorem leaveFor_run (n : Strand) (next : StrandState) (s : State) : StrandRun StageMove n s (leaveFor n next s) := by
  obtain ⟨h, -, -⟩ | ⟨h, -⟩ | h := leaveFor_cases n s next <;> rw [h]
  · exact dequeue_run n s
  · exact release_run n s

/-- A message to the arbiter leaves the state of the strand. -/
@[simp] theorem state_leaveFor (n : Strand) (next : StrandState) (s : State) :
    (ctxOf (leaveFor n next s) n).state = (ctxOf s n).state := by
  obtain ⟨p, h⟩ := ctxOf_leaveFor n s next
  rw [h]

theorem enterTripped_run (h : (ctxOf s n).state ≠ .idle) : StrandRun StageMove n s (enterTripped n s) :=
  (leaveFor_run n _ s).tail (.block _ _ (.trip _ (by simpa [ctxOf] using (state_leaveFor n .tripped s).trans_ne h)))

theorem holdStrand_run (n : Strand) (s : State) : StrandRun StageMove n s (holdStrand n s) := by
  unfold holdStrand
  split
  · rename_i g h
    rw [← state_leaveFor n .held s] at h
    exact (leaveFor_run n _ s).tail (.block _ _ (.hold _ g h))
  · exact .refl

theorem enterWait_run (h : (ctxOf s n).state = .fill ∨ (ctxOf s n).state = .dwell) :
    StrandRun StageMove n s (enterWait n s) :=
  .trans (StrandRun.ctx _ (.wait _ _ h)) (enqueue_run n _)

theorem enterCast_run (h : (ctxOf s n).state = .ramp) : StrandRun StageMove n s (enterCast n s) := by
  rw [← state_leaveFor n .cast s] at h
  unfold enterCast
  exact (leaveFor_run n _ s).trans (StrandRun.ctx _ (StageMove.cast _ _ h))

theorem steerAction_ne_stop (x : Steer) : steerAction x ≠ .stop := by cases x <;> simp [steerAction]

/-- STOP is the action of CHANGE_OVERRUN alone (R146). -/
theorem actionOf_ne_stop {c : Cfg} {k : Kind} (h : k ≠ .changeOverrun) : actionOf c k ≠ .stop := by
  unfold actionOf
  split
  · exact steerAction_ne_stop _
  · cases k <;> simp_all [fixedAction]

theorem applyAction_run {a : Action} (h : a ≠ .stop) : StrandRun StageMove n s (applyAction n a s) := by
  obtain h' | ⟨h', -, hi, -⟩ | ⟨h', -⟩ | ⟨-, ha, -⟩ := applyAction_cases n s a
  · rw [h']
  · rw [h']
    exact enterTripped_run hi
  · rw [h']
    exact holdStrand_run n s
  · exact absurd ha h

theorem applyActions_run {as : List Action} (h : ∀ a ∈ as, a ≠ .stop) :
    StrandRun StageMove n s (applyActions n as s) := by
  unfold applyActions
  induction as generalizing s with
  | nil => exact .refl
  | cons a as ih => exact .trans (applyAction_run (h a (by simp))) (ih fun b hb => h b (by simp [hb]))

end Stage

end Sys2Proof.Machine
end

section
/-! PROOF. The stages of a control period and the grant as chains of the elementary changes, and what a chain of stages
2 to 4 leaves of a context. -/

namespace Sys2Proof.Machine

open Sys2Proof

/-! ## What the stages leave of a context -/

/-- `c'` is `c` after changes of stages 2 to 4 other than the setpoint's: the samples are kept, the loop stands or is
shut, and the setpoint stands unless the strand was tripped. -/
structure Steady (c c' : Ctx) : Prop where
  history  : c'.history = c.history
  extremes : c'.extremes = c.extremes
  loop     : (c'.mode = c.mode ∧ c'.stopper = c.stopper ∧ c'.integrator = c.integrator)
    ∨ (c'.mode = .off ∧ c'.stopper = 0 ∧ c'.integrator = 0)
  idle     : c'.state = .idle ↔ c.state = .idle
  target   : c.state = .idle → c'.levelTarget = c.levelTarget
  tripped  : c.state = .tripped → c'.state = .tripped
  down     : c'.state = .tripped → c.state = .tripped ∨ c'.mode = .off
  frozen   : c.state = .frozen → c'.state = .frozen ∨ c'.state = .tripped
  speed    : c'.state ≠ .tripped → c'.speed = c.speed

protected theorem Steady.refl (c : Ctx) : Steady c c :=
  ⟨rfl, rfl, .inl ⟨rfl, rfl, rfl⟩, .rfl, fun _ => rfl, id, .inl, .inl, fun _ => rfl⟩

protected theorem Steady.trans {c d e : Ctx} (h : Steady c d) (k : Steady d e) : Steady c e where
  history := k.history.trans h.history
  extremes := k.extremes.trans h.extremes
  loop := by
    obtain ⟨km, ks, ki⟩ | kl := k.loop
    · rw [km, ks, ki]
      exact h.loop
    · exact .inr kl
  idle := k.idle.trans h.idle
  target hi := (k.target (h.idle.2 hi)).trans (h.target hi)
  tripped ht := k.tripped (h.tripped ht)
  down ht := by
    obtain kd | ko := k.down ht
    · refine (h.down kd).imp_right fun ho => ?_
      obtain ⟨km, -⟩ | ⟨km, -⟩ := k.loop
      · rw [km, ho]
      · exact km
    · exact .inr ko
  frozen hf := (h.frozen hf).elim k.frozen fun ht => .inr (k.tripped ht)
  speed ht := (k.speed ht).trans (h.speed fun hd => ht (k.tripped hd))

theorem StageMove.steady {b b' : Block} (h : StageMove b b') : Steady b.ctx b'.ctx := by
  cases h with
  | notes => exact ⟨rfl, rfl, .inl ⟨rfl, rfl, rfl⟩, .rfl, fun _ => rfl, id, .inl, .inl, fun _ => rfl⟩
  | trip h => constructor <;> simp_all [toTripped]
  | dwell h | cast _ h | slot _ _ _ _ h => constructor <;> simp_all
  | wait _ h => obtain h | h := h <;> constructor <;> simp_all
  | hold g h =>
    rw [holdReturnOf_eq_some] at h
    cases g <;> simp only [holdState] at h <;> constructor <;> simp [← h]

theorem StrandRun.steady {n : Strand} {s t : State} (h : StrandRun StageMove n s t) :
    Steady (ctxOf s n) (ctxOf t n) :=
  h.keeps (Q := fun b => Steady (ctxOf s n) b.ctx) (fun _ _ hm hq => hq.trans hm.steady) (fun _ _ hq => hq)
    (.refl _)

/-! ## Stages 2 and 3 -/

/-- A strand tripped in this period, its loop shut and its TRIP line asserted. -/
structure Down (b : Block) : Prop where
  state      : b.ctx.state = .tripped
  mode       : b.ctx.mode = .off
  stopper    : b.ctx.stopper = 0
  integrator : b.ctx.integrator = 0
  outTrip    : b.outTrip = true

/-- A part of a control period at strand `n` from `s`. Where a TRIP action cuts the period short the strand is down; only
outside Law 5 can the action meet a strand in IDLE or TRIPPED, whose loop is then CLOSED. -/
structure StageRun (n : Strand) (s : State) (p : Period) : Prop where
  run : StrandRun StageMove n s p.st
  cut : p.cut = true → Down p.st.strands[n]
    ∨ (((ctxOf s n).state = .idle ∨ (ctxOf s n).state = .tripped) ∧ (ctxOf p.st n).mode = .closed)

section Stages

variable {n : Strand} {s : State}

theorem StageRun.quiet {t : State} (h : StrandRun StageMove n s t) : StageRun n s { st := t, cut := false } :=
  ⟨h, nofun⟩

theorem StageRun.after {t : State} {p : Period} (k : StageRun n t p) (h : StrandRun StageMove n s t) :
    StageRun n s p := by
  refine ⟨h.trans k.run, fun hc => (k.cut hc).imp_right ?_⟩
  rintro ⟨hs, hm⟩
  have st := h.steady
  have loop := k.run.steady.loop
  refine ⟨hs.imp st.idle.1 fun ht => (st.down ht).resolve_right fun ho => ?_, hm⟩
  simp_all

theorem StageRun.unlessCut {f : State → Period} {p : Period} (h : StageRun n s p)
    (hf : ∀ u, StageRun n u (f u)) : StageRun n s (unlessCut f p) := by
  unfold Machine.unlessCut
  split
  · exact h
  · exact (hf p.st).after h.run

theorem down_enterTripped (n : Strand) (s : State) : Down (enterTripped n s).strands[n] := by
  have e : (enterTripped n s).strands[n] = _ := mapBlock_same n _ _
  rw [e]
  exact ⟨rfl, rfl, rfl, rfl, rfl⟩

/-- An action that is not STOP does nothing to a strand that is down. -/
theorem applyAction_down {a : Action} (h : a ≠ .stop) (hd : Down s.strands[n]) : applyAction n a s = s := by
  obtain h' | ⟨-, -, -, ht⟩ | ⟨h', -⟩ | ⟨-, ha, -⟩ := applyAction_cases n s a
  · exact h'
  · exact absurd hd.state ht
  · rw [h', holdStrand, ctxOf, hd.state]
    rfl
  · exact absurd ha h

theorem applyActions_down {as : List Action} (h : ∀ a ∈ as, a ≠ .stop) (hd : Down s.strands[n]) :
    applyActions n as s = s := by
  induction as with
  | nil => rfl
  | cons a as ih =>
    have e : applyActions n (a :: as) s = applyActions n as (applyAction n a s) := rfl
    rw [e, applyAction_down (h a (by simp)) hd, ih fun b hb => h b (by simp [hb])]

/-- A TRIP action takes any strand down that is not in IDLE or TRIPPED. -/
theorem applyAction_trip (hi : (ctxOf s n).state ≠ .idle) (ht : (ctxOf s n).state ≠ .tripped) :
    applyAction n .trip s = enterTripped n s :=
  if_neg (by simp [hi, ht])

/-- A deviation's action, with the state and mode of the strand as its onset found them. -/
theorem stageRun_action {a : Action} {t : State} (ha : a ≠ .stop) (h : StrandRun StageMove n s t)
    (hs : (ctxOf t n).state = (ctxOf s n).state)
    (hm : (ctxOf s n).state = .idle ∨ (ctxOf s n).state = .tripped → (ctxOf t n).mode = .closed) :
    StageRun n s { st := applyAction n a t, cut := a = .trip } := by
  refine ⟨h.trans (applyAction_run ha), fun hc => ?_⟩
  obtain rfl : a = .trip := of_decide_eq_true hc
  by_cases hw : (ctxOf s n).state = .idle ∨ (ctxOf s n).state = .tripped
  · refine .inr ⟨hw, ?_⟩
    rw [← hs] at hw
    rw [show applyAction n .trip t = t from if_pos hw]
    exact hm (hs ▸ hw)
  · rw [← hs] at hw
    rw [applyAction_trip (fun e => hw (.inl e)) (fun e => hw (.inr e))]
    exact .inl (down_enterTripped n t)

@[simp] theorem ctxOf_setCondition (n : Strand) (k : Cond) (b : Bool) (s : State) :
    ctxOf (setCondition n k b s) n = ctxOf s n :=
  ctxOf_mapBlock n _ s

theorem setCondition_run (n : Strand) (k : Cond) (b : Bool) (s : State) :
    StrandRun StageMove n s (setCondition n k b s) :=
  StrandRun.block _ (.notes _ _ _ _ _ _ _ _ _)

theorem checkCond_run {k : Cond} {f : Finding}
    (h : f = .present → (ctxOf s n).state ≠ .idle ∧ (ctxOf s n).state ≠ .tripped) :
    StageRun n s (checkCond n k f s) := by
  cases f with
  | present =>
    simp only [checkCond]
    split
    · exact .quiet .refl
    · refine stageRun_action (actionOf_ne_stop (by cases k <;> simp [condKind]))
        ((raise_run n _ s).trans (setCondition_run n _ _ _)) (by simp) fun hw => ?_
      obtain ⟨hi, ht⟩ := h rfl
      exact absurd hw (by simp [hi, ht])
  | absent => exact .quiet (setCondition_run n k false s)
  | unknown => exact .quiet .refl

theorem isWatched_iff {st : StrandState} : isWatched st = true ↔ st ≠ .idle ∧ st ≠ .tripped := by
  cases st <;> simp [isWatched]

theorem isInterlocked_iff {st : StrandState} :
    isInterlocked st = true ↔ st ≠ .idle ∧ st ≠ .frozen ∧ st ≠ .stopping ∧ st ≠ .tripped := by
  cases st <;> simp [isInterlocked]

theorem isMoving_iff {st : StrandState} : isMoving st = true ↔ st = .ramp ∨ st = .cast := by
  cases st <;> simp [isMoving]

theorem found_eq_present {b : Bool} : found b = .present ↔ b = true := by cases b <;> simp [found]

theorem levelFinding_checked {c : Bool} {f : Nat → Bool} {l : Option Nat} (h : levelFinding c f l = .present) :
    c = true := by
  cases c with
  | true => rfl
  | false => simp [levelFinding] at h

theorem moving_of_lagging {r : Reading} (h : lagging s n r = true) :
    (ctxOf s n).state = .ramp ∨ (ctxOf s n).state = .cast := by
  rw [lagging, Bool.and_eq_true] at h
  exact isMoving_iff.1 h.1

theorem checkLag_run (r : Reading) : StageRun n s (checkLag n r s) := by
  unfold checkLag
  dsimp only
  refine .after (checkCond_run fun hp => ?_) (StrandRun.ctx _ (.notes _ _ _ _ _ _ _ _ _))
  have hm := moving_of_lagging (Bool.and_eq_true _ _ ▸ found_eq_present.1 hp).1
  rw [ctxOf_mapCtx]
  obtain hm | hm := hm <;> simp [hm]

theorem checkSuspect_run (r : Reading) (prior : List Nat) : StageRun n s (checkSuspect n r prior s) := by
  unfold checkSuspect
  split
  · split
    · rename_i h
      simp only [Bool.and_eq_true, decide_eq_true_eq] at h
      exact stageRun_action (actionOf_ne_stop (by decide)) (raise_run n _ s) (by simp) fun _ => by simpa using h.1
    · exact .quiet .refl
  · exact .quiet .refl

/-- Stage 2 (R149). -/
theorem checks_run (r : Reading) (prior : List Nat) : StageRun n s (checks n r prior s) := by
  have watched (k : Cond) (b : Bool) (u : State) :
      StageRun n u (checkCond n k (found (isWatched (ctxOf u n).state && b)) u) := by
    refine checkCond_run fun hp => ?_
    rw [found_eq_present, Bool.and_eq_true] at hp
    exact isWatched_iff.1 hp.1
  unfold checks
  refine .unlessCut (.unlessCut (.unlessCut (.unlessCut (.unlessCut (.unlessCut (watched _ _ s) fun u => ?_)
    fun u => watched _ _ u) fun u => ?_) fun u => checkSuspect_run r prior) fun u => ?_) fun u => checkLag_run r
  · refine checkCond_run fun hp => ?_
    rw [found_eq_present, Bool.and_eq_true] at hp
    obtain ⟨hi, -, -, ht⟩ := isInterlocked_iff.1 hp.1
    exact ⟨hi, ht⟩
  · exact checkCond_run fun hp => isWatched_iff.1 (levelFinding_checked hp)
  · refine checkCond_run fun hp => ?_
    obtain hm | hm := isMoving_iff.1 (levelFinding_checked hp) <;> simp [hm]

theorem advanceTimer_run (n : Strand) (s : State) : StrandRun StageMove n s (advanceTimer n s) :=
  StrandRun.ctx _ (.notes _ _ _ _ _ _ _ _ _)

@[simp] theorem ctxOf_advanceTimer (n : Strand) (s : State) :
    ctxOf (advanceTimer n s) n = { ctxOf s n with timer := (ctxOf s n).timer + 1 } := ctxOf_mapCtx n _ s

theorem timeoutTest_run {k : Kind} {limit : Nat} (hk : k ≠ .changeOverrun)
    (hi : (ctxOf s n).state ≠ .idle) (ht : (ctxOf s n).state ≠ .tripped) :
    StageRun n s (timeoutTest n k limit s) := by
  unfold timeoutTest
  split
  · exact .quiet .refl
  · split
    · refine stageRun_action (actionOf_ne_stop hk) (((advanceTimer_run n s).trans (raise_run n k _)).trans
        (StrandRun.ctx _ (.notes _ _ _ _ _ _ _ _ _))) (by simp) fun hw => absurd hw (by simp [hi, ht])
    · exact .quiet (advanceTimer_run n s)

/-- Stage 3 (R8). -/
theorem timedStage_run (r : Reading) : StageRun n s (timedStage n r s) := by
  unfold timedStage
  split
  case h_1 h =>
    unfold fillStage quiet
    split
    · split
      · exact .quiet (StrandRun.ctx _ (.dwell _ h))
      · exact .quiet (enterWait_run (.inl h))
    · exact timeoutTest_run (by decide) (by simp [h]) (by simp [h])
  case h_2 h =>
    unfold dwellStage quiet
    dsimp only
    split
    · exact .quiet ((advanceTimer_run n s).trans (enterWait_run (.inr (by simpa using h))))
    · exact .quiet (advanceTimer_run n s)
  case h_3 h => exact timeoutTest_run (by decide) (by simp [h]) (by simp [h])
  case h_4 h =>
    unfold floorTest quiet
    dsimp only
    split
    · split
      · exact .quiet (StrandRun.ctx _ (.notes _ _ _ _ _ _ _ _ _))
      · exact .quiet .refl
    · exact .quiet .refl
  all_goals exact .quiet .refl

end Stages

/-! ## Stage 4 and the grant -/

section Ramps

variable {n : Strand} {s : State} {x : Ramped}

/-- What the Ramp Generator has made of `s`: a chain of changes in one strand state, and no STOP among the actions kept. -/
structure RampRun (n : Strand) (s : State) (x : Ramped) : Prop where
  run     : StrandRun StageMove n s x.st
  state   : (ctxOf x.st n).state = (ctxOf s n).state
  actions : ∀ a ∈ x.actions, a ≠ .stop

theorem RampRun.start (n : Strand) (s : State) : RampRun n s { st := s, actions := [] } := ⟨.refl, rfl, by simp⟩

theorem RampRun.step {t : State} (h : RampRun n s x) (hr : StrandRun StageMove n x.st t)
    (hs : (ctxOf t n).state = (ctxOf x.st n).state) : RampRun n s { x with st := t } :=
  ⟨h.run.trans hr, hs.trans h.state, h.actions⟩

theorem RampRun.deviation {k : Kind} (h : RampRun n s x) (hk : k ≠ .changeOverrun) :
    RampRun n s (rampDeviation n k x) := by
  refine ⟨h.run.trans (raise_run n k _), by simp [rampDeviation, h.state], fun a ha => ?_⟩
  obtain ha | rfl := by simpa [rampDeviation] using ha
  · exact h.actions a ha
  · exact actionOf_ne_stop hk

theorem RampRun.startSlot (h : RampRun n s x) (hr : (ctxOf s n).state = .ramp) (i : Nat) :
    RampRun n s (startSlot n i x) := by
  rw [← h.state] at hr
  unfold Machine.startSlot
  dsimp only
  split
  · exact (h.step (StrandRun.ctx _ (StageMove.slot _ _ _ _ _ hr rfl)) (by simp)).deviation (by decide)
  · exact h.step (StrandRun.ctx _ (StageMove.slot _ _ _ _ _ hr rfl)) (by simp)

theorem RampRun.reportCap (h : RampRun n s x) (l : Limited) : RampRun n s (reportCap n l x) := by
  unfold Machine.reportCap
  split
  · exact (h.step (StrandRun.ctx _ (StageMove.notes _ _ _ _ _ _ _ _ _)) (by simp)).deviation (by decide)
  · exact h

theorem RampRun.reportClamp (h : RampRun n s x) (l : Limited) : RampRun n s (reportClamp n l x) := by
  unfold Machine.reportClamp
  split
  · exact (h.step (StrandRun.ctx _ (StageMove.notes _ _ _ _ _ _ _ _ _)) (by simp)).deviation (by decide)
  · exact h

theorem RampRun.endSlot (h : RampRun n s x) (hr : (ctxOf s n).state = .ramp) (r : SlotRun) :
    StrandRun StageMove n s (endSlot n r x).st ∧ (∀ a ∈ (endSlot n r x).actions, a ≠ .stop)
      ∧ ((ctxOf (endSlot n r x).st n).state = .ramp ∨ (ctxOf (endSlot n r x).st n).state = .cast) := by
  unfold Machine.endSlot
  dsimp only
  generalize hy : (if (ctxOf x.st n).target = some (ctxOf x.st n).speed then x
    else rampDeviation n .rampShort x) = y
  have hy' : RampRun n s y := by
    rw [← hy]
    split
    · exact h
    · exact h.deviation (by decide)
  split
  · exact ⟨(hy'.startSlot hr _).run, (hy'.startSlot hr _).actions, .inl ((hy'.startSlot hr _).state.trans hr)⟩
  · exact ⟨hy'.run.trans (enterCast_run (hy'.state.trans hr)), hy'.actions, .inr (by simp [enterCast])⟩

/-- The setpoint move of stage 4: none, or one by the common steps in a state that ramps (R57). -/
def SpeedStep (n : Strand) (s t : State) : Prop :=
  t = s ∨ ∃ y slot, slotGoesOn (ctxOf s n).slot slot ∧ (ctxOf s n).state ≠ .idle ∧ (ctxOf s n).state ≠ .tripped
    ∧ (ctxOf s n).state ≠ .frozen
    ∧ t = mapCtx n (fun c => { c with slot := slot, speed := (limitFor s n y).speed }) s

/-- Stage 4 as one move of the setpoint and then changes that leave it; no action is kept in a state that does not
ramp. -/
def StageFour (n : Strand) (s : State) (x : Ramped) : Prop :=
  ∃ t, SpeedStep n s t ∧ StrandRun StageMove n t x.st ∧ (∀ a ∈ x.actions, a ≠ .stop)
    ∧ (x.actions ≠ [] → (ctxOf x.st n).state ≠ .idle ∧ (ctxOf x.st n).state ≠ .tripped)

theorem rampStage_run (h : (ctxOf s n).state = .ramp) : StageFour n s (rampStage n s) := by
  unfold rampStage
  dsimp only
  split
  · rename_i r st hslot _
    generalize ht : mapCtx n _ s = t
    have hs : (ctxOf t n).state = .ramp := by rw [← ht, ctxOf_mapCtx, h]
    have step : SpeedStep n s t :=
      .inr ⟨_, _, .inr ⟨r, hslot, rfl⟩, by simp [h], by simp [h], by simp [h], ht.symm⟩
    have run := ((RampRun.start n t).reportCap (limitFor s n
      (rampCandidate { r with k := r.k + 1 } st (ctxOf s n).speed))).reportClamp (limitFor s n
      (rampCandidate { r with k := r.k + 1 } st (ctxOf s n).speed))
    split
    · obtain ⟨hr, ha, he⟩ := run.endSlot hs { r with k := r.k + 1 }
      exact ⟨t, step, hr, ha, fun _ => by obtain he | he := he <;> simp [he]⟩
    · exact ⟨t, step, run.run, run.actions, fun _ => by simp [run.state, hs]⟩
  · exact ⟨s, .inl rfl, .refl, by simp, by simp⟩

theorem castStage_run (h : (ctxOf s n).state = .cast) : StageFour n s (castStage n s) := by
  unfold castStage
  dsimp only
  generalize ht : mapCtx n _ s = t
  have hs : (ctxOf t n).state = .cast := by rw [← ht, ctxOf_mapCtx, h]
  have run := ((RampRun.start n t).reportCap (limitFor s n
    ((ctxOf s n).target.getD (ctxOf s n).speed : Nat))).reportClamp (limitFor s n
    ((ctxOf s n).target.getD (ctxOf s n).speed : Nat))
  exact ⟨t, .inr ⟨_, _, .inl rfl, by simp [h], by simp [h], by simp [h], ht.symm⟩, run.run, run.actions,
    fun _ => by simp [run.state, hs]⟩

theorem plainStage_run {y : Int} (hi : (ctxOf s n).state ≠ .idle) (ht : (ctxOf s n).state ≠ .tripped)
    (hf : (ctxOf s n).state ≠ .frozen) : StageFour n s { st := plainStage n y s, actions := [] } :=
  ⟨_, .inr ⟨y, _, .inl rfl, hi, ht, hf, rfl⟩, .refl, by simp, by simp⟩

/-- Stage 4 (R61 to R71). -/
theorem speedStage_run (n : Strand) (s : State) : StageFour n s (speedStage n s) := by
  unfold speedStage
  split
  case h_1 h => exact rampStage_run h
  case h_2 h => exact castStage_run h
  case h_9 | h_10 | h_11 => exact ⟨s, .inl rfl, .refl, by simp, by simp⟩
  all_goals
    rename_i h
    exact plainStage_run (by simp [h]) (by simp [h]) (by simp [h])

theorem SpeedStep.state {t : State} (h : SpeedStep n s t) : (ctxOf t n).state = (ctxOf s n).state := by
  obtain rfl | ⟨y, slot, -, -, -, -, rfl⟩ := h
  · rfl
  · simp

/-- A TRIP among the actions takes the strand down. -/
theorem applyActions_trip {as : List Action} (ha : ∀ a ∈ as, a ≠ .stop) (h : .trip ∈ as)
    (hi : (ctxOf s n).state ≠ .idle) (ht : (ctxOf s n).state ≠ .tripped) : Down (applyActions n as s).strands[n] := by
  induction as generalizing s with
  | nil => simp at h
  | cons a as ih =>
    have e : applyActions n (a :: as) s = applyActions n as (applyAction n a s) := rfl
    have hb : ∀ b ∈ as, b ≠ .stop := fun b hb => ha b (by simp [hb])
    rw [e]
    by_cases hat : a = .trip
    · subst hat
      rw [applyAction_trip hi ht, applyActions_down hb (down_enterTripped n s)]
      exact down_enterTripped n s
    · have st := (applyAction_run (n := n) (s := s) (ha a (by simp))).steady
      refine ih hb (by simpa [Ne.symm hat] using h) (fun e => hi (st.idle.1 e)) fun e => ?_
      obtain h' | ⟨-, ha', -⟩ | ⟨h', -⟩ | ⟨-, ha', -⟩ := applyAction_cases n s a
      · exact ht (h' ▸ e)
      · exact hat ha'
      · rw [h', holdStrand] at e
        split at e
        · simp at e
        · exact ht e
      · exact ha a (by simp) ha'

/-- Stage 4 with its actions: one move of the setpoint, then changes that leave it; cut short it leaves the strand
down (R9). -/
theorem rampAndActions_run (n : Strand) (s : State) :
    ∃ t, SpeedStep n s t ∧ StrandRun StageMove n t (rampAndActions n s).st
      ∧ ((rampAndActions n s).cut = true → Down (rampAndActions n s).st.strands[n]) := by
  obtain ⟨t, hstep, hrun, ha, hw⟩ := speedStage_run n s
  refine ⟨t, hstep, hrun.trans (applyActions_run ha), fun hc => ?_⟩
  have hmem : .trip ∈ (speedStage n s).actions := by simpa [rampAndActions] using hc
  obtain ⟨hi, ht⟩ := hw (List.ne_nil_of_mem hmem)
  exact applyActions_trip ha hmem hi ht

end Ramps

end Sys2Proof.Machine
end

section
/-! PROOF. Every event of a running part as a chain of the elementary changes. -/

namespace Sys2Proof.Machine

open Sys2Proof

/-! ## A control period -/

section Period

variable {n : Strand} {r : Reading} {s : State}

/-- What a control period can do (R8, R9): the opening, changes that leave the setpoint, one move of it, changes that
leave it, and then stages 5 to 7, unless a TRIP action has cut it short. -/
theorem periodOn_cases (n : Strand) (r : Reading) (s : State) :
    ∃ m u w, StrandRun StageMove n (openPeriod n r s) m ∧ SpeedStep n m u ∧ StrandRun StageMove n u w
      ∧ (periodOn n r s = closePeriod n r w
        ∨ (periodOn n r s = w ∧ (Down w.strands[n]
          ∨ (((ctxOf s n).state = .idle ∨ (ctxOf s n).state = .tripped) ∧ (ctxOf w n).mode = .closed
            ∧ StrandRun StageMove n (openPeriod n r s) w)))) := by
  have hopen : (ctxOf (openPeriod n r s) n).state = (ctxOf s n).state := by
    unfold openPeriod
    rw [ctxOf_mapBlock, ← ctxOf]
    dsimp only
    unfold takeLevel
    split <;> split <;> rfl
  have hp := (checks_run (n := n) (s := openPeriod n r s) r (suspectHistory s.strands[n])).unlessCut
    (f := timedStage n r) fun u => timedStage_run r
  unfold periodOn
  generalize unlessCut (timedStage n r) _ = p at hp ⊢
  rw [← hopen]
  by_cases hc : p.cut = true
  · refine ⟨p.st, p.st, p.st, hp.run, .inl rfl, .refl, .inr ⟨by simp [unlessCut, hc], ?_⟩⟩
    exact (hp.cut hc).imp_right fun h => ⟨h.1, h.2, hp.run⟩
  · obtain ⟨u, hstep, hrun, hdown⟩ := rampAndActions_run n p.st
    refine ⟨p.st, u, _, hp.run, hstep, hrun, ?_⟩
    rw [show unlessCut (rampAndActions n) p = rampAndActions n p.st from if_neg hc]
    by_cases hq : (rampAndActions n p.st).cut = true
    · exact .inr ⟨by simp [unlessCut, hq], .inl (hdown hq)⟩
    · exact .inl (by simp [unlessCut, hq, quiet])

theorem SpeedStep.run {t : State} {g : StrandCfg} (h : SpeedStep n s t) : StrandRun (BlockMove g) n s t := by
  obtain rfl | ⟨y, slot, hs, hi, ht, -, rfl⟩ := h
  · exact .refl
  · exact StrandRun.ctx _ (.speed _ y slot hs hi ht)

theorem StrandRun.ofStage {t : State} {g : StrandCfg} (h : StrandRun StageMove n s t) : StrandRun (BlockMove g) n s t :=
  h.mono fun _ _ => .stage

theorem closePeriod_run {g : StrandCfg} : StrandRun (BlockMove g) n s (closePeriod n r s) := by
  have hstop : StrandRun (BlockMove g) n s (stopTest n r s) := by
    unfold stopTest
    split
    · rename_i h
      exact StrandRun.block _ (.idle _ h.1 h.2.1)
    · exact .refl
  unfold closePeriod levelStage
  exact (hstop.trans (StrandRun.ctx _ (.loop _ _))).trans (StrandRun.block _ (.driven _))

theorem periodOn_run (n : Strand) (r : Reading) (s : State) :
    StrandRun (BlockMove s.cfg.strands[n]) n s (periodOn n r s) := by
  obtain ⟨m, u, w, hm, hu, hw, h⟩ := periodOn_cases n r s
  have run : StrandRun (BlockMove s.cfg.strands[n]) n s w :=
    (((StrandRun.block _ (.opened r _)).trans hm.ofStage).trans hu.run).trans hw.ofStage
  obtain h | ⟨h, -⟩ := h <;> rw [h]
  · exact run.trans closePeriod_run
  · exact run

end Period

/-! ## The parts of the other events at one strand -/

section Parts

variable {n : Strand} {s : State} {g : StrandCfg}

theorem strandGrant_run : StrandRun (BlockMove g) n s (strandGrant n s) := by
  unfold strandGrant
  split
  · rename_i h
    have hx := (RampRun.start n (mapCtx n (fun c => { c with state := .ramp, permit := true }) s)).startSlot
      (by simp) 1
    exact ((StrandRun.ctx _ (.grant _ h)).trans hx.run.ofStage).trans (applyActions_run hx.actions).ofStage
  · exact .refl

theorem enterStopping_run (hi : (ctxOf s n).state ≠ .idle) (ht : (ctxOf s n).state ≠ .tripped) :
    StrandRun (BlockMove g) n s (enterStopping n s) := by
  rw [← state_leaveFor n .stopping s] at hi ht
  exact (leaveFor_run n _ s).ofStage.trans (StrandRun.block _ (.stop _ hi ht))

theorem enterChange_run (hi : (ctxOf s n).state ≠ .idle) (ht : (ctxOf s n).state ≠ .tripped) :
    StrandRun (BlockMove g) n s (enterChange n s) := by
  rw [← state_leaveFor n .change s] at hi ht
  exact (leaveFor_run n _ s).ofStage.trans (StrandRun.block _ (.change _ hi ht))

theorem changeBeginAt_run : StrandRun (BlockMove g) n s (changeBeginAt n s) := by
  unfold changeBeginAt
  split
  case h_7 h =>
    split
    · exact .refl
    · exact StrandRun.block _ (.rewrite _ h)
  case h_8 | h_9 | h_10 | h_11 => exact .refl
  all_goals
    rename_i h
    exact enterChange_run (by simp [h]) (by simp [h])

theorem noteNoPlan_run {R : Block → Block → Prop} (r : PlanRef) : StrandRun R n s (noteNoPlan n r s) := by
  unfold noteNoPlan
  split
  · exact raise_run n _ s
  · exact .refl

theorem seatedAt_run : StrandRun (BlockMove g) n s (seatedAt n s) := by
  unfold seatedAt
  split
  · rename_i h
    unfold beginTundish mapCtx
    dsimp only
    rw [mapBlock_mapBlock]
    exact (StrandRun.block _ (.tundish _ _ _ h)).trans (noteNoPlan_run _)
  · exact .refl

theorem stopsAtOverrun_iff {c : Ctx} :
    stopsAtOverrun c = true ↔ c.state = .change ∨ (c.state = .frozen ∧ c.freezeReturn = some .change) := by
  simp [stopsAtOverrun]

theorem overrunAt_run : StrandRun (BlockMove g) n s (overrunAt n s) := by
  unfold overrunAt
  split
  · rename_i h
    have hst : stopsAtOverrun (ctxOf (raise n .changeOverrun s) n) = true := by rwa [ctxOf_raise]
    refine (raise_run n .changeOverrun s).trans ?_
    rw [show actionOf s.cfg .changeOverrun = .stop from rfl,
      show applyAction n .stop (raise n .changeOverrun s) = enterStopping n (raise n .changeOverrun s) from if_pos hst]
    rw [stopsAtOverrun_iff] at hst
    obtain h | ⟨h, -⟩ := hst <;> exact enterStopping_run (by rw [h]; decide) (by rw [h]; decide)
  · exact .refl

theorem freezeStrand_run : StrandRun (BlockMove g) n s (freezeStrand n s) := by
  unfold freezeStrand
  split
  · rename_i f h
    rw [← state_leaveFor n .frozen s] at h
    exact (leaveFor_run n _ s).ofStage.trans (StrandRun.ctx _ (.freeze _ f h))
  · exact .refl

theorem beginDip_run : StrandRun (BlockMove g) n s (beginDip n s) :=
  (StrandRun.ctx _ (.dip _ _ _)).trans (noteNoPlan_run _)

theorem setHoldReturn_run (h : Option HoldReturn) : StrandRun (BlockMove g) n s (setHoldReturn n h s) :=
  StrandRun.ctx _ (.holdReturn _ h)

theorem recoverInto_run {f : FreezeReturn} (h : (ctxOf s n).state = .frozen) (hf : (ctxOf s n).freezeReturn = some f) :
    StrandRun (BlockMove g) n s (recoverInto f n s) := by
  have thaw (st : StrandState) (hs : st = .fill ∨ st = .dwell ∨ st = .waitPermit ∨ st = .held
      ∨ (st = .change ∧ (ctxOf s n).freezeReturn = some .change)) : StrandRun (BlockMove g) n s (thawTo st n s) :=
    StrandRun.ctx _ (.thaw _ st h hs)
  cases f with
  | fill => exact (thaw .fill (by simp)).trans (setHoldReturn_run _)
  | dwell => exact (thaw .dwell (by simp)).trans (setHoldReturn_run _)
  | waitPermit => exact ((thaw .waitPermit (by simp)).trans (setHoldReturn_run _)).trans (enqueue_run n _)
  | ramp | cast =>
    exact (((thaw .waitPermit (by simp)).trans (setHoldReturn_run _)).trans beginDip_run).trans (enqueue_run n _)
  | held =>
    unfold recoverInto recoverHeld
    dsimp only
    split
    · exact ((thaw .held (by simp)).trans (setHoldReturn_run _)).trans beginDip_run
    · exact thaw .held (by simp)
  | change => exact (thaw .change (by simp [hf])).trans (setHoldReturn_run _)

@[simp] theorem ctxOf_lowerSpeed (m : Nat) (n : Strand) (s : State) : ctxOf (lowerSpeed m n s) n
    = { ctxOf s n with speed := min (ctxOf s n).speed (limitMeasured m * 16) } :=
  ctxOf_mapBlock n _ s

theorem lowerSpeed_run (m : Nat) : StrandRun (BlockMove g) n s (lowerSpeed m n s) := StrandRun.block _ (.lower _ m)

theorem recoverAt_run (measured : Vector Nat 6) : StrandRun (BlockMove g) n s (recoverAt measured n s) := by
  unfold recoverAt
  split
  · rename_i f h hf
    exact (lowerSpeed_run measured[n]).trans (recoverInto_run (by rw [ctxOf_lowerSpeed, h]) (by rw [ctxOf_lowerSpeed, hf]))
  · exact .refl

theorem outageAt_run : StrandRun (BlockMove g) n s (outageAt n s) := by
  unfold outageAt
  split
  · exact (raise_run n _ s).trans (applyAction_run (actionOf_ne_stop (by decide))).ofStage
  · exact .refl

theorem mayStop_iff {n : Strand} {s : State} : mayStop s n = true
    ↔ (ctxOf s n).state ≠ .idle ∧ (ctxOf s n).state ≠ .stopping ∧ (ctxOf s n).state ≠ .tripped := by
  unfold mayStop
  split <;> simp [*]

theorem stopStrand_run : StrandRun (BlockMove g) n s (stopStrand n s) := by
  unfold stopStrand
  split
  · rename_i h
    obtain ⟨hi, -, ht⟩ := mayStop_iff.1 h
    exact enterStopping_run hi ht
  · exact .refl

theorem beginStart_run (r : PlanRef) (h : (ctxOf s n).state = .idle) : StrandRun (BlockMove g) n s (beginStart n r s) := by
  unfold beginStart mapCtx
  rw [mapBlock_mapBlock]
  exact StrandRun.block _ (.start _ r _ h)

theorem resumeStrand_run (h : HoldReturn) (hs : (ctxOf s n).state = .held) :
    StrandRun (BlockMove g) n s (resumeStrand n h s) := by
  unfold resumeStrand
  split
  · exact (StrandRun.ctx _ (.resume _ .waitPermit _ hs)).trans (enqueue_run n _)
  all_goals exact StrandRun.ctx _ (.resume _ _ _ hs)

theorem releaseTrip_run (h : (ctxOf s n).state = .tripped) : StrandRun (BlockMove g) n s (releaseTrip n s) := by
  unfold releaseTrip enterIdle
  rw [mapBlock_mapBlock]
  exact StrandRun.block _ (.untrip _ h)

end Parts

/-! ## The events -/

/-- One elementary change of the whole state by an event, `c` being the settings when the event came: a change at a
strand, a plant record, a log cleared, or a change that leaves blocks, plant log, ALARM, phase and queue of commands. -/
inductive Move (c : Cfg) : State → State → Prop
  | strand {s t : State} (n : Strand) (h : StrandMove (BlockMove c.strands[n]) n s t) : Move c s t
  | plant (k : Kind) (affected : List Strand) (s : State) : Move c s (raisePlant k affected s)
  | clear (n : Strand) (s : State) : Move c s (clearLog n s)
  | clearPlant (s : State) : Move c s (clearPlantLog s)
  | other {s t : State} (hs : t.strands = s.strands) (hl : t.plantLog = s.plantLog) (ha : t.alarm = s.alarm)
      (hp : t.phase = s.phase) (hq : t.pending = s.pending) : Move c s t

/-- A chain of elementary changes. -/
abbrev Run (c : Cfg) : State → State → Prop := Relation.ReflTransGen (Move c)

section Events

variable {c : Cfg} {s t : State}

theorem Run.strand {n : Strand} (h : StrandRun (BlockMove c.strands[n]) n s t) : Run c s t := by
  induction h with
  | refl => exact .refl
  | tail _ hm ih => exact ih.tail (.strand n hm)

theorem Run.other (hs : t.strands = s.strands) (hl : t.plantLog = s.plantLog) (ha : t.alarm = s.alarm)
    (hp : t.phase = s.phase) (hq : t.pending = s.pending) : Run c s t :=
  .single (.other hs hl ha hp hq)

/-- A chain after a change that leaves blocks, plant log, ALARM, phase and queue of commands. -/
theorem Run.ofOther {u : State} (h : Run c t u) (hs : t.strands = s.strands) (hl : t.plantLog = s.plantLog)
    (ha : t.alarm = s.alarm) (hp : t.phase = s.phase) (hq : t.pending = s.pending) : Run c s u :=
  .trans (Run.other hs hl ha hp hq) h

theorem line_run (l : Line) : Run c s { s with line := l } := .other rfl rfl rfl rfl rfl

theorem answer_run (r : Reply) : Run c s (answer r s) := .other rfl rfl rfl rfl rfl

theorem raisePlant_run (k : Kind) (affected : List Strand) : Run c s (raisePlant k affected s) := .single (.plant k _ s)

theorem forEach_run {f : Strand → State → State} (hf : ∀ n u, StrandRun (BlockMove c.strands[n]) n u (f n u)) :
    Run c s (forEach f s) :=
  forEach_keeps (P := Run c s) (fun n u h => h.trans (Run.strand (hf n u))) .refl

theorem evaluateGrants_run : Run c s (evaluateGrants s) := by
  refine evaluateGrants_keeps (P := Run c s) (fun u _ h => h.trans ?_) .refl
  unfold grantHead
  split
  · exact .refl
  · rename_i e rest _
    exact (Run.strand (n := e.strand) strandGrant_run).ofOther rfl rfl rfl rfl rfl

theorem spacingExpires_run : Run c s (spacingExpires s) := by
  unfold spacingExpires
  split
  · exact Run.ofOther evaluateGrants_run rfl rfl rfl rfl rfl
  · exact .refl

theorem beginEdge_run : Run c s (beginEdge s) := by
  unfold beginEdge
  split
  · exact Run.ofOther (forEach_run fun _ _ => changeBeginAt_run) rfl rfl rfl rfl rfl
  · exact .refl

theorem seatedEdge_run : Run c s (seatedEdge s) := by
  unfold seatedEdge
  split
  · exact Run.ofOther (forEach_run fun _ _ => seatedAt_run) rfl rfl rfl rfl rfl
  · exact raisePlant_run _ _

theorem onEdge_run {edge : State → State} (h : ∀ u, Run c u (edge u)) (b : Bool) : Run c s (onEdge b edge s) := by
  unfold onEdge
  split
  · exact h s
  · exact .refl

theorem sampleCar_run (b w first : Bool) : Run c s (sampleCar b w first s) := by
  unfold sampleCar
  dsimp only
  split
  · exact Run.ofOther ((onEdge_run (fun _ => seatedEdge_run) _).trans (onEdge_run (fun _ => beginEdge_run) _))
      rfl rfl rfl rfl rfl
  · exact Run.ofOther ((onEdge_run (fun _ => beginEdge_run) _).trans (onEdge_run (fun _ => seatedEdge_run) _))
      rfl rfl rfl rfl rfl

theorem windowExpires_run : Run c s (windowExpires s) := by
  unfold windowExpires
  split
  · exact Run.ofOther (forEach_run fun _ _ => overrunAt_run) rfl rfl rfl rfl rfl
  · exact .refl

theorem handleVolts_run : Run c s (handleVolts s) := by
  have monitor (m : Monitor) : Run c s { s with mon := m } := .other rfl rfl rfl rfl rfl
  unfold handleVolts
  dsimp only
  split
  · split
    · exact Run.ofOther ((raisePlant_run _ _).trans (forEach_run fun _ _ => freezeStrand_run)) rfl rfl rfl rfl rfl
    · exact .refl
  · split
    · exact monitor _
    · exact .refl
  · split
    · exact .refl
    · split
      · exact monitor _
      · exact monitor _
  · split
    · exact .refl
    · exact monitor _

theorem settleExpires_run (measured : Vector Nat 6) : Run c s (settleExpires measured s) := by
  obtain h | ⟨-, -, -, h⟩ | ⟨-, -, -, h⟩ := settleExpires_cases measured s <;> rw [h]
  · exact Run.ofOther ((forEach_run fun _ _ => recoverAt_run measured).trans evaluateGrants_run) rfl rfl rfl rfl rfl
  · exact Run.ofOther evaluateGrants_run rfl rfl rfl rfl rfl

theorem rideExpires_run : Run c s (rideExpires s) := by
  unfold rideExpires
  split
  · exact Run.ofOther ((forEach_run fun _ _ => outageAt_run).trans (raisePlant_run _ _)) rfl rfl rfl rfl rfl
  · exact .refl

/-- A character changes the line alone (R175). -/
theorem receive_line (x : Option Nat) (s : State) : ∃ l, receive x s = { s with line := l } := by
  unfold receive
  split
  · exact ⟨_, rfl⟩
  · split
    · unfold judgeLine answer
      dsimp only
      split
      · exact ⟨_, rfl⟩
      · split
        · split <;> exact ⟨_, rfl⟩
        · split
          · exact ⟨_, rfl⟩
          · split <;> exact ⟨_, rfl⟩
    · exact ⟨_, rfl⟩
  · exact ⟨_, rfl⟩

theorem receive_run (x : Option Nat) : Run c s (receive x s) := by
  obtain ⟨l, h⟩ := receive_line x s
  rw [h]
  exact line_run l

theorem foldl_receive_run (chars : Text) : Run c s (chars.foldl (fun u x => receive (some x) u) s) := by
  induction chars generalizing s with
  | nil => exact .refl
  | cons x xs ih => exact (receive_run _).trans ih

theorem whenRunning_run {f : State → State} (h : s.phase = .running → Run c s (f s)) : Run c s (whenRunning f s) := by
  unfold whenRunning
  split
  · exact h ‹_›
  · exact .refl

/-- A request changes what its owner changes, and the line (R179). -/
theorem serve_run {r : Request} {act : State → State} (h : ∀ u, Run c u (act u)) :
    Run c s (whenRunning (serve r act) s) := by
  refine whenRunning_run fun _ => ?_
  unfold serve
  split
  · split
    · exact (line_run _).trans (answer_run _)
    · exact (line_run _).trans (h _)
  · exact line_run _

theorem readOnly_run (r : State → Reply) : Run c s (readOnly r s) := answer_run _

theorem writePlan_run (p : Nat) (f : Plan → Plan) : Run c s (writePlan p f s) := by
  unfold writePlan
  split
  · exact answer_run _
  · split
    · exact answer_run _
    · exact .other rfl rfl rfl rfl rfl

theorem checkPlan_run (p : Nat) : Run c s (checkPlan p s) := by
  unfold checkPlan
  split
  · exact answer_run _
  · split
    · exact answer_run _
    · split
      · exact answer_run _
      · exact answer_run _
      · split
        · exact answer_run _
        · exact .other rfl rfl rfl rfl rfl

theorem putAt_run (pairs : List (CfgKey × Value)) : Run c s (putAt pairs s) := by
  unfold putAt applyPut
  split
  · exact answer_run _
  · dsimp only
    split
    · exact Run.ofOther evaluateGrants_run rfl rfl rfl rfl rfl
    · exact .other rfl rfl rfl rfl rfl

theorem begAt_run (k : Nat) (plan : Option Nat) (seated ready : Bool) : Run c s (begAt k plan seated ready s) := by
  unfold begAt
  split
  · exact answer_run _
  · rename_i n _
    split
    · exact answer_run _
    · rename_i r h
      have hi : (ctxOf s n).state = .idle := by
        unfold begChecks at h
        split at h
        · cases h
        · by_contra hne
          simp [hne] at *
      exact (Run.strand (beginStart_run r hi)).trans (answer_run _)

theorem hldAt_run (k : Nat) : Run c s (hldAt k s) := by
  unfold hldAt
  split
  · exact answer_run _
  · split
    · exact (Run.strand (holdStrand_run _ s).ofStage).trans (answer_run _)
    · exact answer_run _

theorem answerUnless_run (b : Bool) (r : Reply) : Run c s (answerUnless b r s) := by
  unfold answerUnless
  split
  · exact .refl
  · exact answer_run _

theorem stpAt_run (k : Nat) : Run c s (stpAt k s) := by
  unfold stpAt
  split
  · exact answer_run _
  · split
    · exact (Run.strand stopStrand_run).trans (answer_run _)
    · exact answer_run _

theorem resAt_run (k : Nat) (plan : Option Nat) : Run c s (resAt k plan s) := by
  unfold resAt
  split
  · exact answer_run _
  · split
    · rename_i h _
      exact (Run.strand (resumeStrand_run _ h)).trans (answer_run _)
    · exact answer_run _

theorem relAt_run (k m : Nat) : Run c s (relAt k m s) := by
  unfold relAt
  split
  · exact answer_run _
  · rename_i n _
    split
    · exact answer_run _
    · rename_i h
      have ht : (ctxOf s n).state = .tripped := by
        unfold relChecks at h
        split at h
        · cases h
        · exact not_not.1 ‹_›
      exact (Run.strand (releaseTrip_run ht)).trans (answer_run _)

theorem ackAt_run (l : LogSel) : Run c s (ackAt l s) := by
  unfold ackAt
  split
  · exact .trans (.single (.clearPlant s)) (answer_run _)
  · split
    · exact answer_run _
    · exact .trans (.single (.clear _ s)) (answer_run _)

theorem savAt_run : Run c s (savAt s) := by
  unfold savAt
  split
  · exact answer_run _
  · split
    · exact answer_run _
    · exact .other rfl rfl rfl rfl rfl

theorem saveCompletes_run (a b : Bool) : Run c s (saveCompletes a b s) := by
  unfold saveCompletes
  split
  · split
    · exact .other rfl rfl rfl rfl rfl
    · exact Run.ofOther (raisePlant_run _ _) rfl rfl rfl rfl rfl
  · exact .refl

theorem rstAt_run : Run c s (rstAt s) := by
  unfold rstAt
  split
  · exact answer_run _
  · split
    · exact answer_run _
    · exact .other rfl rfl rfl rfl rfl

/-- Every command but those of control power and the end of a reply is a chain of elementary changes. -/
theorem exec_run {i : Instr} (hc : isPowerCommand i = false) (hr : ∀ v, i ≠ .replySent v) (s : State) :
    ∃ t, exec i s = .next t ∧ Run s.cfg s t := by
  have when {f : State → State} (h : Run s.cfg s (f s)) : Run s.cfg s (whenRunning f s) := whenRunning_run fun _ => h
  cases i with
  | controlPeriod n x => exact ⟨_, rfl, when (Run.strand (periodOn_run n _ s))⟩
  | grantEvaluation => exact ⟨_, rfl, when evaluateGrants_run⟩
  | spacingTimerExpiry => exact ⟨_, rfl, when spacingExpires_run⟩
  | carLineSampling b w first => exact ⟨_, rfl, when (sampleCar_run b w first)⟩
  | changeWindowExpiry => exact ⟨_, rfl, when windowExpires_run⟩
  | busVoltageSampling v =>
    exact ⟨_, rfl, when (Run.ofOther handleVolts_run rfl rfl rfl rfl rfl)⟩
  | settleTimerExpiry m => exact ⟨_, rfl, when (settleExpires_run m)⟩
  | rideThroughExpiry => exact ⟨_, rfl, when rideExpires_run⟩
  | timeCounterTick => exact ⟨_, rfl, when (.other rfl rfl rfl rfl rfl)⟩
  | requestLine chars => exact ⟨_, rfl, when (foldl_receive_run chars)⟩
  | characterReceived code p f => exact ⟨_, rfl, when (receive_run _)⟩
  | saveCompletion a b => exact ⟨_, rfl, when (saveCompletes_run a b)⟩
  | replySent v => exact absurd rfl (hr v)
  | sta | getIdent | getStrand | getLog | getPlan | getSlot | getCfg | getPermit | getStore | getTime =>
    exact ⟨_, rfl, serve_run fun _ => readOnly_run _⟩
  | getCause | getLineerr => exact ⟨_, rfl, serve_run fun _ => .other rfl rfl rfl rfl rfl⟩
  | put pairs => exact ⟨_, rfl, serve_run fun _ => putAt_run pairs⟩
  | plnHeaderWrite | plnSlotWrite | plnClr => exact ⟨_, rfl, serve_run fun _ => writePlan_run _ _⟩
  | chk p => exact ⟨_, rfl, serve_run fun _ => checkPlan_run p⟩
  | beg n p b r => exact ⟨_, rfl, serve_run fun _ => begAt_run n p b r⟩
  | hld n => exact ⟨_, rfl, serve_run fun _ => hldAt_run n⟩
  | hldAll b =>
    exact ⟨_, rfl, serve_run fun _ => (forEach_run fun n u => (holdStrand_run n u).ofStage).trans (answerUnless_run b _)⟩
  | res n p => exact ⟨_, rfl, serve_run fun _ => resAt_run n p⟩
  | stp n => exact ⟨_, rfl, serve_run fun _ => stpAt_run n⟩
  | stpAll b =>
    exact ⟨_, rfl, serve_run fun _ => (forEach_run fun _ _ => stopStrand_run).trans (answerUnless_run b _)⟩
  | rel n m => exact ⟨_, rfl, serve_run fun _ => relAt_run n m⟩
  | ack l => exact ⟨_, rfl, serve_run fun _ => ackAt_run l⟩
  | sav => exact ⟨_, rfl, serve_run fun _ => savAt_run⟩
  | rst => exact ⟨_, rfl, serve_run fun _ => rstAt_run⟩
  | shutdown | controlSupplyFailingDeassert | powerApplication | start | controlPowerLoss | snapshotCompletion =>
    cases hc

end Events

end Sys2Proof.Machine
end

section
/-! PROOF. Control power and the starts: what SHUTDOWN, a power start and a line reset leave (chapter 9). -/

namespace Sys2Proof.Machine

open Sys2Proof

/-! ## Shutdown -/

section Shutdown

/-- The forced outputs of one strand (R6). -/
def forcedBlock (b : Block) : Block := { b with outSpeed := 0, outStopper := 0, outTrip := true }

theorem forceOutputs_block (s : State) (n : Strand) : (forceOutputs s).strands[n] = forcedBlock s.strands[n] := by
  obtain ⟨-, t, -, ht, h⟩ := forEach_strand (f := fun m => mapBlock m forcedBlock) (fun m u => mapBlock_only m u _) s n
  exact h.trans ((mapBlock_same n _ t).trans (congrArg forcedBlock ht))

theorem forceOutputs_rest (s : State) : forceOutputs s = { s with strands := (forceOutputs s).strands, alarm := true } := by
  have arb : (forEach (fun m => mapBlock m forcedBlock) s).arb = s.arb :=
    forEach_keeps (P := fun u => u.arb = s.arb) (fun _ _ h => h) rfl
  obtain ⟨h, -⟩ := forEach_strand (f := fun m => mapBlock m forcedBlock) (fun m u => mapBlock_only m u _) s 0
  have h' : forceOutputs s = { forEach (fun m => mapBlock m forcedBlock) s with alarm := true } := rfl
  rw [h', h, arb]

end Shutdown

/-! ## What a start loads -/

section Start

variable {s : State} {d : ImageData} {k : StartKind} {volts : Nat}

/-- The image a start loads from (R164, R171). -/
theorem loadedData_of_loads (h : loads s.store.image d) : loadedData s = d := by
  obtain ⟨hv, hi⟩ := h
  unfold loadedData validImage
  cases hval : s.store.image.valid with
  | true => rw [if_pos rfl, hv hval, Option.getD_some]
  | false =>
    obtain ⟨hc, hp⟩ := hi hval
    rw [if_neg Bool.false_ne_true, Option.getD_none, ← hc, ← hp]

theorem validImage_isNone (h : loads s.store.image d) : (validImage s).isNone = !s.store.image.valid := by
  unfold validImage
  cases hval : s.store.image.valid with
  | true => rw [if_pos rfl, h.1 hval]; rfl
  | false => rfl

@[simp] theorem startBase_val (n : Strand) :
    (startBase k volts s).strands[n.val] = startBlock k (loadedData s).cfg.strands[n] n := by
  simp [startBase]

theorem startBase_block (n : Strand) :
    (startBase k volts s).strands[n] = startBlock k (loadedData s).cfg.strands[n] n := startBase_val n

/-- What every start sets (R171). -/
theorem startBase_started (h : loads s.store.image d) : startedOn d volts (startBase k volts s) := by
  have hd := loadedData_of_loads h
  have blocks (n : Strand) : (startBase k volts s).strands[n] = startBlock k d.cfg.strands[n] n := hd ▸ startBase_block n
  unfold startedOn
  refine ⟨rfl, congrArg (·.plans) hd, congrArg (·.cfg) hd, rfl, rfl, ?_, rfl, rfl, rfl, rfl, rfl, rfl, rfl, rfl, ?_, ?_, ?_, ?_⟩
  · rw [← hd]
    rfl
  · exact congrArg (·.cfg.plant.addr) hd
  · exact congrArg (·.cfg.plant.baud) hd
  · exact congrArg (·.cfg.plant.parity) hd
  · intro n
    rw [blocks n]
    exact ⟨rfl, rfl, rfl, rfl⟩

/-- `startedOn` speaks of neither contexts, logs, TRIP lines nor ALARM. -/
theorem startedOn.change {t : State} (h : startedOn d volts t) {blocks : Vector Block 6} {alarm : Bool}
    {log : Log PlantRec} {store : Store} (hs : store.saving = t.store.saving) (hl : store.lastOk = t.store.lastOk)
    (hb : ∀ n : Strand, blocks[n].active = t.strands[n].active ∧ blocks[n].force = t.strands[n].force
      ∧ blocks[n].outSpeed = t.strands[n].outSpeed ∧ blocks[n].outStopper = t.strands[n].outStopper) :
    startedOn d volts { t with strands := blocks, alarm := alarm, plantLog := log, store := store } := by
  obtain ⟨h1, h2, h3, h4, h5, h6, hsave, hlast, h7, h8, h9, h10, h11, h12, h13, h14, h15, hn⟩ := h
  refine ⟨h1, h2, h3, h4, h5, h6, hs.trans hsave, hl.trans hlast, h7, h8, h9, h10, h11, h12, h13, h14, h15,
    fun n => ?_⟩
  obtain ⟨ha, hf, ho, hp⟩ := hb n
  dsimp only
  rw [ha, hf, ho, hp]
  exact hn n

/-! ## Marks and ALARM -/

theorem any_nextInsert (k : Kind) (m : Bool) (l : List NextEntry) :
    (nextInsert k m l).any NextEntry.mark = (l.any NextEntry.mark || m) := by
  induction l with
  | nil => simp [nextInsert]
  | cons e es ih =>
    unfold nextInsert
    split
    · simp [Bool.or_comm]
    · split
      · simp only [List.any_cons]
        exact Bool.or_right_comm _ _ _
      · simp [ih, Bool.or_assoc]

/-- A record adds its mark to the log's (R155, R159). -/
theorem logMarked_logRecord {ρ : Type} (mark : ρ → Bool) (l : Log ρ) (r : ρ) (k : Kind) :
    logMarked mark (logRecord l r k (mark r)) = (logMarked mark l || mark r) := by
  unfold logRecord
  split
  · rename_i h
    simp [logMarked, h, Bool.or_comm]
  · rename_i x h
    simp [logMarked, h, any_nextInsert, Bool.or_assoc]

theorem anyMark_eq_true {s : State} : anyMark s = true
    ↔ (∃ n : Strand, logMarked StrandRec.mark s.strands[n].log = true) ∨ logMarked PlantRec.mark s.plantLog = true := by
  have all (n : Strand) : n ∈ allStrands := by revert n; decide
  simp [anyMark, all]

theorem anyMark_eq_false {s : State} : anyMark s = false
    ↔ (∀ n : Strand, logMarked StrandRec.mark s.strands[n].log = false) ∧ logMarked PlantRec.mark s.plantLog = false := by
  rw [← Bool.not_eq_true, anyMark_eq_true]
  simp

/-! ## A power-on start and a line reset -/

/-- A start that is no power return leaves every strand and log as new (R5, R154, R158). -/
theorem startBase_afresh (hk : k = .powerOn ∨ k = .lineReset) (h : loads s.store.image d) :
    (∀ n : Strand, ctxOf (driveAlarm (startBase k volts s)) n = Ctx.powerOn d.cfg.strands[n].lnorm
        ∧ (driveAlarm (startBase k volts s)).strands[n].outTrip = false
        ∧ (driveAlarm (startBase k volts s)).strands[n].log = { first := none, next := [] })
      ∧ (driveAlarm (startBase k volts s)).plantLog = { first := none, next := [] }
      ∧ (driveAlarm (startBase k volts s)).alarm = false := by
  have hd := loadedData_of_loads h
  have blocks (n : Strand) : (startBase k volts s).strands[n] = startBlock k d.cfg.strands[n] n := hd ▸ startBase_block n
  have logs (n : Strand) : startLog k n = { first := none, next := [] } := by obtain rfl | rfl := hk <;> rfl
  have plant : startPlantLog k = { first := none, next := [] } := by obtain rfl | rfl := hk <;> rfl
  refine ⟨fun n => ?_, plant, anyMark_eq_false.2 ⟨fun n => ?_, ?_⟩⟩
  · rw [show ctxOf (driveAlarm (startBase k volts s)) n = (startBase k volts s).strands[n].ctx from rfl,
      show (driveAlarm (startBase k volts s)).strands = (startBase k volts s).strands from rfl, blocks n]
    refine ⟨?_, rfl, logs n⟩
    obtain rfl | rfl := hk <;> rfl
  · rw [blocks n]
    exact congrArg (logMarked StrandRec.mark) (logs n)
  · exact congrArg (logMarked PlantRec.mark) plant

/-! ## A power return -/

/-- The block of a strand that a power return restores and trips, with its CONTROL_POWER_LOST record `r` (R172). -/
def lostBlock (b : Block) (r : StrandRec) : Block :=
  { b with
    ctx := { toTripped b.ctx with permit := permitAfter b.ctx .tripped }
    log := logRecord b.log r .controlPowerLost true
    outSpeed := 0, outStopper := 0, outTrip := true }

theorem powerLostAt_only (terminals : Vector Sample 6) (n : Strand) (s : State) :
    StrandOnly n s (powerLostAt terminals n s) := by
  unfold powerLostAt
  split
  · exact .refl n s
  · exact (putRecord_only n s _).trans (enterTripped_only n _)

theorem powerLostAt_block (terminals : Vector Sample 6) (n : Strand) (s : State) :
    (powerLostAt terminals n s).strands[n] = if (ctxOf s n).state = .idle then s.strands[n]
      else lostBlock s.strands[n] (strandRecord s n .controlPowerLost (presented terminals[n])) := by
  unfold powerLostAt
  split
  · rfl
  · rw [enterTripped_block, ctxOf_putRecord]
    simp [lostBlock, ctxOf, strandRecord, alarmOf, almPlace]

theorem powerLostAt_arb (terminals : Vector Sample 6) (n : Strand) {s : State} (h : s.arb = startArbiter) :
    (powerLostAt terminals n s).arb = startArbiter := by
  unfold powerLostAt
  split
  · exact h
  · refine (leaveFor_arb n .tripped _).trans ?_
    rw [putRecord_arb, h]
    simp [arbAfter, startArbiter]

theorem forEach_powerLost_block (terminals : Vector Sample 6) (n : Strand) (s : State) :
    (forEach (powerLostAt terminals) s).strands[n] = if (ctxOf s n).state = .idle then s.strands[n]
      else lostBlock s.strands[n] (strandRecord s n .controlPowerLost (presented terminals[n])) := by
  obtain ⟨-, t, hr, ht, h⟩ := forEach_strand (powerLostAt_only terminals) s n
  have hc : ctxOf t n = ctxOf s n := congrArg Block.ctx ht
  have hrec : strandRecord t n .controlPowerLost (presented terminals[n])
      = strandRecord s n .controlPowerLost (presented terminals[n]) := by
    unfold strandRecord
    rw [hc, hr]
  rw [h, powerLostAt_block, hc, hrec, ht]

/-- The state a power return leaves, but for its blocks (R158, R172). -/
theorem powerReturnTrips_rest (terminals : Vector Sample 6) {s : State} (h : s.arb = startArbiter) :
    powerReturnTrips terminals s = { s with
      strands := (forEach (powerLostAt terminals) s).strands, alarm := true
      plantLog := logRecord s.plantLog
        { kind := .controlPowerLost, time := s.store.time, monitor := s.mon.state, change := s.coord.state,
          volts := s.mon.sample, mark := true, affected := notIdleStrands s } .controlPowerLost true
      store := { s.store with snapshot := { s.store.snapshot with valid := false } } } := by
  obtain ⟨hr, -⟩ := forEach_strand (powerLostAt_only terminals) s 0
  have arb : (forEach (powerLostAt terminals) s).arb = s.arb :=
    (forEach_keeps (P := fun u => u.arb = startArbiter) (fun m _ hu => powerLostAt_arb terminals m hu) h).trans h.symm
  unfold powerReturnTrips
  generalize forEach (powerLostAt terminals) s = u at hr arb
  have hu : u = { s with strands := u.strands, alarm := u.alarm } := Eq.trans hr (by rw [arb])
  generalize u.strands = strands, u.alarm = alarm at hu ⊢
  subst hu
  simp [raisePlant, alarmOf, almPlace]

end Start

end Sys2Proof.Machine
end

section
/-! PROOF. The statements about SHUTDOWN, the starts and the end of a reply. -/

namespace Sys2Proof.Machine

open Sys2Proof

theorem enterShutdown_rest (s : State) : enterShutdown s = { s with
    strands := (forceOutputs s).strands, alarm := true, phase := .shutdown, failing := true
    coord := { s.coord with window := none }
    line := { s.line with recv := .betweenLines, handed := [], reply := none, resetArmed := false }
    store := { s.store with
      saving := false, snapshot := { valid := false, writing := true, data := some (snapshotOf s) } } } := by
  unfold enterShutdown
  have hu := forceOutputs_rest s
  generalize forceOutputs s = u at hu
  generalize u.strands = strands at hu ⊢
  subst hu
  rfl

/-- Settles O57. -/
theorem shutdownForcesOutputsAndSnapshots : Obligations.ShutdownForcesOutputsAndSnapshots := by
  intro s
  refine ⟨fun h => ⟨enterShutdown s, snapshotOf s, ?_, ?_, fun n => ⟨?_, ?_, ?_⟩, rfl, rfl, rfl⟩, fun h => ?_⟩
  · simp [exec, execShutdown, supplyFails, h]
  · exact enterShutdown_rest s
  · exact forceOutputs_block s n
  · simp [snapshotOf, ctxOf]
  · simp [snapshotOf]
  · obtain h | h := h <;> simp [exec, execShutdown, supplyFails, h]

section PowerStart

variable {terminals : Vector Sample 6} {volts : Nat} {s : State}

theorem startDue_iff : startDue s = true ↔ (s.phase = .shutdown ∨ s.phase = .holding) ∧ s.failing = false := by
  simp [startDue]

theorem exec_start (h : s.phase = .shutdown ∨ s.phase = .holding) (hf : s.failing = false) :
    exec (.start terminals volts) s = .next (powerStart terminals volts s) := by
  simp [exec, execStart, startDue_iff.2 ⟨h, hf⟩]

theorem exec_start_none (h : s.phase = .running ∨ s.phase = .unpowered ∨ s.failing = true) :
    exec (.start terminals volts) s = .next s := by
  have hd : startDue s = false := by
    rw [← Bool.not_eq_true, startDue_iff]
    obtain h | h | h := h <;> simp [h]
  simp [exec, execStart, hd]

theorem startKind_powerOn (h : s.store.snapshot.valid = false) : startKind s = .powerOn := by
  simp [startKind, h]

theorem startKind_powerReturn {snap : SnapData} (h : s.store.snapshot.valid = true)
    (hd : s.store.snapshot.data = some snap) : startKind s = .powerReturn snap := by
  simp [startKind, h, hd]

theorem powerStart_powerOn (h : startKind s = .powerOn) :
    powerStart terminals volts s = driveAlarm (startBase .powerOn volts (endSnapshotWrite s)) := by
  simp [powerStart, h]

theorem powerStart_powerReturn {snap : SnapData} (h : startKind s = .powerReturn snap) :
    powerStart terminals volts s
      = driveAlarm (powerReturnTrips terminals (startBase (.powerReturn snap) volts (endSnapshotWrite s))) := by
  simp [powerStart, h]

/-- STORE_INVALID is set by a start on an invalid image (R174). -/
theorem flags_of_loads {d : ImageData} {f : Flags} (h : loads s.store.image d) :
    (if (validImage s).isNone then { f with storeInvalid := true } else f)
      = { f with storeInvalid := f.storeInvalid || !s.store.image.valid } := by
  rw [validImage_isNone h]
  cases s.store.image.valid <;> simp

/-- Settles O59. -/
theorem powerOnStartsAfresh : Obligations.PowerOnStartsAfresh := by
  intro terminals volts s d
  refine ⟨exec_start_none, fun h hf hv hl => ⟨_, exec_start h hf, ?_⟩⟩
  have hl' : loads (endSnapshotWrite s).store.image d := hl
  rw [powerStart_powerOn (startKind_powerOn hv)]
  obtain ⟨hn, hp, ha⟩ := startBase_afresh (k := .powerOn) (volts := volts) (.inl rfl) hl'
  refine ⟨(startBase_started hl').change rfl rfl fun n => ⟨rfl, rfl, rfl, rfl⟩, hn, hp, ha, rfl, ?_, rfl, hv, hf, rfl⟩
  exact flags_of_loads hl'

/-- The block a power return gives a strand: as restored in IDLE, else tripped with its record (R172). -/
theorem powerReturn_block (terminals : Vector Sample 6) (volts : Nat) (snap : SnapData) (s : State) (n : Strand) :
    (forEach (powerLostAt terminals) (startBase (.powerReturn snap) volts s)).strands[n]
      = if snap.ctxs[n].state = .idle then startBlock (.powerReturn snap) (loadedData s).cfg.strands[n] n
        else lostBlock (startBlock (.powerReturn snap) (loadedData s).cfg.strands[n] n)
          (strandRecord (startBase (.powerReturn snap) volts s) n .controlPowerLost (presented terminals[n])) := by
  have hi : (ctxOf (startBase (.powerReturn snap) volts s) n).state = .idle ↔ snap.ctxs[n].state = .idle := by
    rw [ctxOf, startBase_block]
    simp only [startBlock, startCtx]
    split
    · exact iff_of_true rfl ‹_›
    · rfl
  rw [forEach_powerLost_block, startBase_block]
  by_cases he : snap.ctxs[n].state = .idle
  · rw [if_pos he, if_pos (hi.2 he)]
  · rw [if_neg he, if_neg (mt hi.1 he)]

/-- Settles O60. -/
theorem powerReturnTripsTheRunning : Obligations.PowerReturnTripsTheRunning := by
  intro terminals volts s d snap h hf hlaw hv hd hl
  have hl' : loads (endSnapshotWrite s).store.image d := hl
  refine ⟨_, exec_start h hf, ?_⟩
  rw [powerStart_powerReturn (startKind_powerReturn hv hd), powerReturnTrips_rest terminals rfl]
  have hload := loadedData_of_loads hl'
  have hblock (n : Strand) : (startBase (.powerReturn snap) volts (endSnapshotWrite s)).strands[n]
      = startBlock (.powerReturn snap) d.cfg.strands[n] n := hload ▸ startBase_block n
  have hb := powerReturn_block terminals volts snap (endSnapshotWrite s)
  rw [hload] at hb
  generalize (forEach (powerLostAt terminals) (startBase (.powerReturn snap) volts (endSnapshotWrite s))).strands
    = blocks at hb ⊢
  refine ⟨(startBase_started (k := .powerReturn snap) hl').change rfl rfl fun n => ?_, ?_, rfl, ?_, rfl, rfl, rfl, ?_,
    fun n => ⟨fun hi => ?_, fun hi => ?_⟩⟩
  · rw [hb, hblock]
    split <;> exact ⟨rfl, rfl, rfl, rfl⟩
  · refine anyMark_eq_true.2 (.inr ?_)
    exact (logMarked_logRecord PlantRec.mark _ _ .controlPowerLost).trans (Bool.or_true _)
  · exact flags_of_loads hl'
  · have hn : notIdleStrands (startBase (.powerReturn snap) volts (endSnapshotWrite s))
        = allStrands.filter fun n => snap.ctxs[n].state ≠ .idle := by
      refine List.filter_congr fun n _ => ?_
      rw [ctxOf, hblock, decide_eq_decide, startBlock, startCtx]
      split
      · exact iff_of_false (by simp [Ctx.powerOn]) (by simpa using ‹_›)
      · exact Iff.rfl
    exact congrArg (fun l => logRecord snap.plantLog
      (PlantRec.mk .controlPowerLost snap.time .outage .noChange (min volts 1500) true l) .controlPowerLost true) hn
  · replace hb := hb n
    rw [if_pos hi] at hb
    refine ⟨(congrArg Block.ctx hb).trans ?_, congrArg Block.outTrip hb, congrArg Block.log hb⟩
    exact if_pos hi
  · replace hb := hb n
    rw [if_neg hi] at hb
    have hc : startCtx (.powerReturn snap) d.cfg.strands[n].lnorm n = { snap.ctxs[n] with history := [] } := if_neg hi
    have hperm : permitAfter { snap.ctxs[n] with history := [] } .tripped = false := by
      obtain ⟨-, -, -, hsnap⟩ := hlaw
      unfold permitAfter
      split
      · rfl
      · rename_i hg
        refine Bool.eq_false_iff.2 fun hp => hg ?_
        exact (hsnap snap (by simp [hd]) n hp).imp (⟨·, by decide⟩) fun hr => ⟨hr.1, hr.2, by decide⟩
    refine ⟨congrArg Block.outTrip hb, (congrArg Block.ctx hb).trans ?_, (congrArg Block.log hb).trans ?_⟩
    · simp only [lostBlock, startBlock, hc, hperm, toTripped]
    · simp only [lostBlock, startBlock, strandRecord, ctxOf, hblock, hc]
      rfl

end PowerStart

/-! ## RST and the end of a reply -/

section Replies

variable {s : State}

theorem allIdle_iff : allIdle s = true ↔ ∀ n : Strand, (ctxOf s n).state = .idle := by
  have all (n : Strand) : n ∈ allStrands := by revert n; decide
  simp [allIdle, all]

theorem exec_rst (h : taken .rst s) : exec .rst s = .next (rstAt { s with line := lineTaking .rst s.line }) :=
  request_served h rfl

theorem exec_replySent {volts : Nat} (h : s.phase = .running) (hr : s.line.reply.isSome = true) :
    exec (.replySent volts) s = .next (if s.line.resetArmed then driveAlarm (startBase .lineReset volts s)
      else { s with line := releaseLine s.cfg.plant s.line }) := by
  simp [exec, execReplySent, whenRunning, h, replyDone, ← Option.not_isSome, hr]

/-- Settles O56. -/
theorem repliesEndWithReleaseOrLineReset : Obligations.RepliesEndWithReleaseOrLineReset := by
  intro volts s
  refine ⟨fun h => ⟨fun hs => ?_, fun hs hn => ?_, fun hs hn => ?_⟩, fun h hr => ?_, fun h hr ha => ?_,
    fun h hr ha d hl => ?_⟩
  · rw [exec_rst h]
    exact congrArg _ ((if_pos hs).trans (answer_taking _ s _))
  · have hi : allIdle s = false := by
      rw [← Bool.not_eq_true, allIdle_iff]
      simpa using hn
    rw [exec_rst h]
    refine congrArg _ ((if_neg (by simp [hs])).trans ((if_pos ?_).trans (answer_taking _ s _)))
    exact congrArg (!·) hi
  · have hi : allIdle { s with line := lineTaking .rst s.line } = true := allIdle_iff.2 hn
    rw [exec_rst h]
    refine congrArg _ ((if_neg (by simp [hs])).trans ((if_neg (by simp [hi])).trans ?_))
    simp [answer, okPlain]
  · simp [exec, execReplySent, whenRunning, h, replyDone, hr]
  · rw [exec_replySent h hr, if_neg (by simp [ha])]
    rfl
  · refine ⟨_, (exec_replySent h hr).trans (congrArg _ (if_pos ha)), ?_⟩
    obtain ⟨hn, hp, hal⟩ := startBase_afresh (k := .lineReset) (volts := volts) (.inr rfl) hl
    exact ⟨(startBase_started hl).change rfl rfl fun n => ⟨rfl, rfl, rfl, rfl⟩, hn, hp, hal, rfl, flags_of_loads hl,
      rfl, rfl, rfl, rfl⟩

end Replies

end Sys2Proof.Machine
end

section
/-! PROOF. The laws that every step keeps: R31, Laws 4 and 5, R32 and Law 8. Each law is shown for the elementary changes
of a block, and so holds along the chain that an event is. -/

namespace Sys2Proof.Machine

open Sys2Proof

/-! ## What a command can do -/

/-- The part as the loss of control power leaves it, or as it is: blocks, logs and ALARM stand, and it does not begin to
run. -/
def IdlePart (s t : State) : Prop :=
  t.strands = s.strands ∧ t.plantLog = s.plantLog ∧ t.alarm = s.alarm ∧ (t.phase = s.phase ∨ t.phase = .unpowered)

/-- Every output is forced and the part does not run (R6, R169, R170). -/
def Forced (s t : State) : Prop :=
  (∀ n : Strand, t.strands[n] = forcedBlock s.strands[n]) ∧ t.alarm = true ∧ t.phase ≠ .running

/-- The part has just started with the plans and configuration `d`: a strand is as new, or it has been tripped. -/
def Started (d : ImageData) (t : State) : Prop :=
  t.phase = .running ∧ t.alarm = anyMark t ∧ ∀ n : Strand, t.strands[n].force = d.cfg.strands[n] ∧
    ((ctxOf t n = Ctx.powerOn d.cfg.strands[n].lnorm ∧ t.strands[n].outTrip = false)
      ∨ (∃ c p, ctxOf t n = { toTripped c with permit := p } ∧ t.strands[n].outTrip = true))

theorem startBase_Started {k : StartKind} {volts : Nat} {s : State} (hk : k = .powerOn ∨ k = .lineReset) :
    Started (loadedData s) (driveAlarm (startBase k volts s)) := by
  refine ⟨rfl, rfl, fun n => ?_⟩
  have hb : (driveAlarm (startBase k volts s)).strands[n] = startBlock k (loadedData s).cfg.strands[n] n :=
    startBase_block (volts := volts) n
  rw [ctxOf, hb]
  refine ⟨rfl, .inl ⟨?_, rfl⟩⟩
  obtain rfl | rfl := hk <;> rfl

theorem powerStart_Started (terminals : Vector Sample 6) (volts : Nat) (s : State) :
    Started (loadedData s) (powerStart terminals volts s) := by
  cases hk : startKind s with
  | powerOn =>
    rw [powerStart_powerOn hk]
    exact startBase_Started (.inl rfl)
  | lineReset =>
    unfold startKind at hk
    split at hk
    · split at hk <;> cases hk
    · cases hk
  | powerReturn snap =>
    rw [powerStart_powerReturn hk, powerReturnTrips_rest terminals rfl]
    have hb := powerReturn_block terminals volts snap (endSnapshotWrite s)
    generalize (forEach (powerLostAt terminals) (startBase (.powerReturn snap) volts (endSnapshotWrite s))).strands
      = blocks at hb ⊢
    refine ⟨rfl, rfl, fun n => ?_⟩
    change blocks[n].force = _ ∧ ((blocks[n].ctx = _ ∧ blocks[n].outTrip = false)
      ∨ ∃ c p, blocks[n].ctx = _ ∧ blocks[n].outTrip = true)
    rw [hb]
    split
    · exact ⟨rfl, .inl ⟨if_pos ‹_›, rfl⟩⟩
    · exact ⟨rfl, .inr ⟨_, _, rfl, rfl⟩⟩

/-- Outside operation every command but those of control power is discarded (R6, R169). -/
theorem exec_discarded {i : Instr} {s : State} (h : s.phase ≠ .running) (hc : isPowerCommand i = false) :
    exec i s = .next s := by
  have discarded (f : State → State) : Host.Outcome.next (whenRunning f s) = (.next s : Result) :=
    congrArg _ (if_neg h)
  cases i with
  | shutdown | controlSupplyFailingDeassert | powerApplication | start | controlPowerLoss | snapshotCompletion =>
    cases hc
  | _ => exact discarded _

/-- What a command can do: a chain of elementary changes, forced outputs, the same outside operation, or a start. -/
theorem exec_cases {i : Instr} {s t : State} (h : exec i s = .next t) :
    (s.phase = .running ∧ Run s.cfg s t) ∨ Forced s t ∨ IdlePart s t ∨ Started (loadedData s) t := by
  have same : IdlePart s s := ⟨rfl, rfl, rfl, .inl rfl⟩
  by_cases hr : ∃ v, i = .replySent v
  · obtain ⟨v, rfl⟩ := hr
    cases h
    unfold whenRunning replyDone
    split
    · split
      · exact .inr (.inr (.inl same))
      · split
        · exact .inr (.inr (.inr (startBase_Started (.inr rfl))))
        · exact .inl ⟨‹_›, line_run _⟩
    · exact .inr (.inr (.inl same))
  by_cases hc : isPowerCommand i = false
  · obtain ⟨u, hu, hrun⟩ := exec_run hc (fun v e => hr ⟨v, e⟩) s
    rw [hu] at h
    by_cases hp : s.phase = .running
    · cases h
      exact .inl ⟨hp, hrun⟩
    · rw [← hu, exec_discarded hp hc] at h
      cases h
      exact .inr (.inr (.inl same))
  cases i with
  | shutdown =>
    cases h
    unfold supplyFails
    split
    · refine .inr (.inl ⟨fun n => ?_, ?_, ?_⟩) <;> rw [enterShutdown_rest]
      · exact forceOutputs_block s n
      · simp
    all_goals exact .inr (.inr (.inl ⟨rfl, rfl, rfl, .inl rfl⟩))
  | snapshotCompletion =>
    cases h
    unfold snapshotDone
    split <;> exact .inr (.inr (.inl ⟨rfl, rfl, rfl, .inl rfl⟩))
  | controlSupplyFailingDeassert =>
    cases h
    unfold supplyRestored
    split <;> exact .inr (.inr (.inl ⟨rfl, rfl, rfl, .inl rfl⟩))
  | controlPowerLoss =>
    cases h
    exact .inr (.inr (.inl ⟨rfl, rfl, rfl, .inr rfl⟩))
  | powerApplication f =>
    cases h
    refine .inr (.inl ⟨fun n => forceOutputs_block (losePower s) n, rfl, ?_⟩)
    simp [applyPower]
  | start terminals volts =>
    cases h
    split
    · exact .inr (.inr (.inr (powerStart_Started terminals volts s)))
    · exact .inr (.inr (.inl same))
  | _ => exact absurd rfl hc

/-! ## Laws of one block along a chain -/

section Keeps

variable {c : Cfg} {s t : State} {Q : Block → Prop}

theorem StrandMove.keeps {R : Block → Block → Prop} {n : Strand} (hR : ∀ b b', R b b' → Q b → Q b')
    (hlog : ∀ b l, Q b → Q { b with log := l }) (h : StrandMove R n s t) (hq : ∀ m : Strand, Q s.strands[m])
    (m : Strand) : Q t.strands[m] := by
  by_cases hm : m = n
  · subst hm
    exact StrandRun.keeps hR hlog (.single h) (hq m)
  · cases h with
    | block f _ => exact (mapBlock_other n m f s hm).symm ▸ hq m
    | record r => exact ((putRecord_only n s r).others m hm).symm ▸ hq m
    | arbiter a => exact hq m

/-- A law of every block that each change keeps, and that says nothing of the log, is kept along a chain. -/
theorem Run.keeps (hR : ∀ (n : Strand) b b', BlockMove c.strands[n] b b' → Q b → Q b')
    (hlog : ∀ b l, Q b → Q { b with log := l }) (h : Run c s t) (hq : ∀ n : Strand, Q s.strands[n]) (n : Strand) :
    Q t.strands[n] := by
  induction h generalizing n with
  | refl => exact hq n
  | tail _ hm ih =>
    cases hm with
    | strand m h => exact h.keeps (hR m) hlog ih n
    | plant k l => exact ih n
    | clear m =>
      by_cases hn : n = m
      · subst hn
        exact (mapBlock_same n (fun b => { b with log := Log.empty }) _).symm ▸ hlog _ _ (ih n)
      · exact (mapBlock_other m n (fun b => { b with log := Log.empty }) _ hn).symm ▸ ih n
    | clearPlant => exact ih n
    | other hs => exact hs ▸ ih n

theorem StrandMove.phase {R : Block → Block → Prop} {n : Strand} (h : StrandMove R n s t) : t.phase = s.phase := by
  cases h <;> rfl

theorem Run.phase (h : Run c s t) : t.phase = s.phase := by
  induction h with
  | refl => rfl
  | tail _ hm ih =>
    cases hm with
    | strand m h => exact h.phase.trans ih
    | other _ _ _ hp => exact hp.trans ih
    | _ => exact ih

end Keeps

/-! ## The setpoint (R31, R74) -/

theorem vmax_le {g : StrandCfg} (h : strandCfgOk g) : g.vmax ≤ 7000 := by
  obtain ⟨ha, -⟩ := h .vmax (by decide)
  simp only [accepts, getStrandItem, within, strandRange, Bool.and_eq_true] at ha
  exact of_decide_eq_true ha.2

theorem umax_le {g : StrandCfg} (h : strandCfgOk g) : g.umax ≤ 1000 := by
  obtain ⟨ha, -⟩ := h .umax (by decide)
  simp only [accepts, getStrandItem, within, strandRange, Bool.and_eq_true] at ha
  exact of_decide_eq_true ha.2

/-- The common steps stay below the larger of cap and setpoint (R57). -/
theorem commonSteps_le (cap accel prev : Nat) (x : Int) : (commonSteps cap accel prev x).speed ≤ max cap prev := by
  simp only [commonSteps, capStep, rateStep]
  split <;> split <;> try split
  all_goals omega

/-- The speed law of one block, with the cap in force. -/
abbrev speedBlock (b : Block) : Prop := b.force.vmax ≤ 7000 ∧ ctxSpeedOk b.ctx

theorem takeResume_le {c : Ctx} {m : Nat} (hs : c.speed ≤ m) (hr : ∀ v ∈ c.resume, v ≤ m) : ∀ v ∈ takeResume c, v ≤ m := by
  unfold takeResume
  split <;> simp_all

theorem takeLevel_speedOk {level : Option Nat} {c : Ctx} (h : ctxSpeedOk c) : ctxSpeedOk (takeLevel level c) := by
  unfold takeLevel
  split <;> exact h

theorem loopStep_speedOk {g : StrandCfg} {r : Reading} {c : Ctx} (h : ctxSpeedOk c) : ctxSpeedOk (loopStep g r c) := by
  unfold loopStep
  split <;> exact h

theorem StageMove.speedOk {b b' : Block} (h : StageMove b b') (hq : speedBlock b) : speedBlock b' := by
  obtain ⟨hg, hs, hr, ht, hk, h0⟩ := hq
  cases h with
  | notes => exact ⟨hg, hs, hr, ht, hk, h0⟩
  | trip => exact ⟨hg, by simp [ctxSpeedOk, toTripped]⟩
  | dwell | wait | hold => exact ⟨hg, hs, hr, ht, hk, by simp⟩
  | slot r raw lt capped h hr0 =>
    refine ⟨hg, hs, hr, ?_, ?_, h0⟩
    · simp only [Option.mem_some_iff, forall_eq']
      omega
    · simp only [Option.mem_some_iff, forall_eq']
      omega
  | cast => exact ⟨hg, hs, by simp, ht, by simp, by simp⟩

theorem BlockMove.speedOk {g : StrandCfg} (hok : strandCfgOk g) {b b' : Block} (h : BlockMove g b b')
    (hq : speedBlock b) : speedBlock b' := by
  obtain ⟨hg, hc⟩ := id hq
  obtain ⟨hs, hr, ht, hk, h0⟩ := id hc
  cases h with
  | stage h => exact h.speedOk hq
  | opened r =>
    refine ⟨vmax_le hok, takeLevel_speedOk ?_⟩
    split <;> exact hc
  | speed _ x slot hsl hi htr =>
    have := commonSteps_le (b.force.vmax * 16) (b.force.amax * 16) b.ctx.speed x
    refine ⟨hg, by dsimp only; omega, hr, ht, fun q hq => ?_, fun e => absurd e (by simp [hi, htr])⟩
    obtain rfl | ⟨r, h, rfl⟩ := hsl
    · exact hk q hq
    · cases hq
      exact hk r h
  | loop r => exact ⟨hg, loopStep_speedOk hc⟩
  | driven | dip | holdReturn => exact hq
  | idle _ _ hz => exact ⟨hg, hs, by simp [toIdle], by simp [toIdle], by simp [toIdle], fun _ => hz⟩
  | untrip _ h => exact ⟨hg, hs, by simp [toIdle], by simp [toIdle], by simp [toIdle], fun _ => h0 (.inr h)⟩
  | grant => exact ⟨hg, hs, hr, ht, hk, by simp⟩
  | start => exact ⟨hg, hs, hr, by exact ht, hk, by simp [openLoop]⟩
  | stop => exact ⟨hg, hs, hr, by simp [toStopping], by simp [toStopping], by simp [toStopping]⟩
  | change => exact ⟨hg, hs, takeResume_le hs hr, by simp [joinChange], by simp [joinChange], by simp⟩
  | rewrite _ h =>
    exact ⟨hg, hs, takeResume_le hs hr, by simp [joinChange], by simp [joinChange], by simp [joinChange, h]⟩
  | tundish _ r lt h =>
    obtain h | ⟨h, -⟩ := stopsAtOverrun_iff.1 h <;> exact ⟨hg, hs, hr, ht, hk, by simp [openLoop, h]⟩
  | freeze _ f h =>
    refine ⟨hg, hs, ?_, ht, hk, by simp⟩
    dsimp only [freezeResume]
    split
    · exact takeResume_le hs hr
    · exact hr
  | thaw _ st _ h =>
    refine ⟨hg, hs, hr, by simp, by simp, ?_⟩
    obtain rfl | rfl | rfl | rfl | ⟨rfl, -⟩ := h <;> simp
  | lower _ m => exact ⟨hg, (Nat.min_le_left _ _).trans hs, hr, ht, hk, fun e => by simp [h0 e]⟩
  | resume _ h => exact ⟨hg, hs, hr, ht, hk, by cases h <;> simp [holdState]⟩

/-! ## The stopper (R78, R94) -/

/-- The stopper law of one context. -/
abbrev stopperOk (c : Ctx) : Prop :=
  c.stopper ≤ 1000 ∧ -1000 ≤ c.integrator ∧ c.integrator ≤ 1000
    ∧ (stopperShut c → c.mode = .off ∧ c.stopper = 0 ∧ c.integrator = 0)

/-- The stopper law of one block, with the stopper limit in force. -/
abbrev stopperBlock (b : Block) : Prop := b.force.umax ≤ 1000 ∧ stopperOk b.ctx

theorem clampInt_mem {lo hi x : Int} (h : lo ≤ hi) : lo ≤ clampInt lo hi x ∧ clampInt lo hi x ≤ hi := by
  unfold clampInt
  split
  · omega
  · split <;> omega

/-- The bounds of the stopper computation (R86). -/
theorem loopCompute_bounds {g : StrandCfg} {v lt l : Nat} {i : Int} (hl : -1000 ≤ i) (hu : i ≤ 1000) :
    (loopCompute g v lt l i).stopper ≤ g.umax ∧ -1000 ≤ (loopCompute g v lt l i).integrator
      ∧ (loopCompute g v lt l i).integrator ≤ 1000 := by
  unfold loopCompute
  dsimp only
  have hclamp (x : Int) := clampInt_mem (x := x) (show (-1000 : Int) ≤ 1000 by decide)
  refine ⟨Int.toNat_le.2 (clampInt_mem (by omega)).2, ?_, ?_⟩ <;> split
  exacts [hl, (hclamp _).1, hu, (hclamp _).2]

theorem loopStep_stopperOk {g : StrandCfg} (hg : g.umax ≤ 1000) {r : Reading} {c : Ctx} (h : stopperOk c) :
    stopperOk (loopStep g r c) := by
  obtain ⟨hs, hl, hu, hsh⟩ := id h
  unfold loopStep
  split
  · rename_i hm _
    obtain ⟨b1, b2, b3⟩ := loopCompute_bounds (g := g) (v := loopSpeed c r.measured) (lt := c.levelTarget) hl hu
    refine ⟨b1.trans hg, b2, b3, fun he => ?_⟩
    have : c.mode = .off := (hsh he).1
    simp [this] at hm
  · exact ⟨by simp, by simp, by simp, fun he => ⟨(hsh he).1, rfl, rfl⟩⟩
  · exact h

theorem takeLevel_stopperOk {level : Option Nat} {c : Ctx} (h : stopperOk c) : stopperOk (takeLevel level c) := by
  obtain ⟨hs, hl, hu, hsh⟩ := h
  unfold takeLevel
  split
  all_goals
    refine ⟨hs, hl, hu, fun he => ?_⟩
    obtain ⟨hm, h1, h2⟩ := hsh he
    exact ⟨by simp [hm], h1, h2⟩

theorem StageMove.stopperOk {b b' : Block} (h : StageMove b b') (hq : stopperBlock b) : stopperBlock b' := by
  obtain ⟨hg, hs, hl, hu, hsh⟩ := id hq
  cases h with
  | notes | slot => exact hq
  | trip => exact ⟨hg, by simp [Machine.stopperOk, toTripped]⟩
  | dwell | wait | cast | hold => exact ⟨hg, hs, hl, hu, by simp [stopperShut]⟩

theorem BlockMove.stopperOk {g : StrandCfg} (hok : strandCfgOk g) {b b' : Block} (h : BlockMove g b b')
    (hq : stopperBlock b) : stopperBlock b' := by
  obtain ⟨hg, hc⟩ := id hq
  obtain ⟨hs, hl, hu, hsh⟩ := id hc
  cases h with
  | stage h => exact h.stopperOk hq
  | opened r =>
    refine ⟨umax_le hok, takeLevel_stopperOk ?_⟩
    split <;> exact hc
  | speed | driven | dip | holdReturn | lower => exact hq
  | loop r => exact ⟨hg, loopStep_stopperOk hg hc⟩
  | idle | untrip => exact ⟨hg, by simp [Machine.stopperOk, toIdle]⟩
  | stop => exact ⟨hg, by simp [Machine.stopperOk, toStopping]⟩
  | change | rewrite => exact ⟨hg, by simp [Machine.stopperOk, joinChange]⟩
  | grant => exact ⟨hg, hs, hl, hu, by simp [stopperShut]⟩
  | start => exact ⟨hg, hs, by simp [openLoop], by simp [openLoop], by simp [stopperShut, openLoop]⟩
  | tundish _ r lt h =>
    refine ⟨hg, hs, by simp [openLoop], by simp [openLoop], ?_⟩
    obtain h | ⟨h, -⟩ := stopsAtOverrun_iff.1 h <;> simp [stopperShut, openLoop, h]
  | freeze _ f h =>
    refine ⟨hg, hs, hl, hu, fun he => hsh ?_⟩
    obtain rfl : f = .change := by simpa [stopperShut] using he
    exact .inr (.inr (.inr (.inl (freezeReturnOf_eq_some.1 h).symm)))
  | thaw _ st hf h =>
    refine ⟨hg, hs, hl, hu, ?_⟩
    obtain rfl | rfl | rfl | rfl | ⟨rfl, hr⟩ := h
    case inr.inr.inr.inr => exact fun _ => hsh (.inr (.inr (.inr (.inr ⟨hf, hr⟩))))
    all_goals simp [stopperShut]
  | resume _ h => exact ⟨hg, hs, hl, hu, by cases h <;> simp [stopperShut, holdState]⟩

theorem factory_ok : cfgOk Cfg.factory := by
  have strand : strandCfgOk StrandCfg.factory := by decide
  refine ⟨fun n => ?_, by decide⟩
  simpa [Cfg.factory] using strand

/-- What a start loads is in range where the image is (R164, R171). -/
theorem loadedData_ok {s : State} (h : settingsLaw s) : cfgOk (loadedData s).cfg := by
  obtain ⟨-, -, himg⟩ := h
  unfold loadedData validImage
  split
  · cases hd : s.store.image.data with
    | none => exact factory_ok
    | some d => exact himg d hd
  · exact factory_ok

/-- A law of the blocks that each change keeps under settings in range, that says nothing of logs and outputs, and that a
start sets, is kept by every step. -/
theorem step_keeps_blocks {Q : Block → Prop} {s t : State} (hset : settingsLaw s)
    (hR : ∀ g b b', strandCfgOk g → BlockMove g b b' → Q b → Q b')
    (hlog : ∀ b l, Q b → Q { b with log := l }) (hforced : ∀ b, Q b → Q (forcedBlock b))
    (hstart : ∀ b g, strandCfgOk g → b.force = g → (b.ctx = Ctx.powerOn g.lnorm
      ∨ ∃ c p, b.ctx = { toTripped c with permit := p }) → Q b)
    (h : step s = .next t) (hq : ∀ n : Strand, Q s.strands[n]) (n : Strand) : Q t.strands[n] := by
  unfold step at h
  split at h
  · cases h
    exact hq n
  · obtain ⟨-, hrun⟩ | ⟨hf, -⟩ | ⟨hi, -⟩ | ⟨-, -, hb⟩ := exec_cases h
    · exact hrun.keeps (fun m b b' => hR _ b b' (hset.1.1 m)) hlog hq n
    · exact (hf n).symm ▸ hforced _ (hq n)
    · exact hi ▸ hq n
    · obtain ⟨hg, hc⟩ := hb n
      exact hstart _ _ ((loadedData_ok hset).1 n) hg (hc.imp And.left fun ⟨c, p, hc, _⟩ => ⟨c, p, hc⟩)

/-- Settles O8: each elementary change keeps both laws, with the limits in force within range. -/
theorem setpointLawsKept : Obligations.SetpointLawsKept := by
  refine ⟨fun s t hset h hstep n => ?_, fun s t hset h hstep n => ?_⟩
  · refine (step_keeps_blocks (Q := speedBlock) hset (fun _ _ _ hg h => h.speedOk hg) (fun _ _ => id) (fun _ => id)
      (fun b g hg hf hc => ?_) hstep (fun m => ⟨vmax_le (hset.2.1 m), h m⟩) n).2
    refine ⟨hf ▸ vmax_le hg, ?_⟩
    obtain hc | ⟨c, p, hc⟩ := hc <;> rw [hc]
    · simp [ctxSpeedOk, Ctx.powerOn]
    · simp [ctxSpeedOk, toTripped]
  · refine (step_keeps_blocks (Q := stopperBlock) hset (fun _ _ _ hg h => h.stopperOk hg) (fun _ _ => id) (fun _ => id)
      (fun b g hg hf hc => ?_) hstep (fun m => ⟨umax_le (hset.2.1 m), h m⟩) n).2
    refine ⟨hf ▸ umax_le hg, ?_⟩
    obtain hc | ⟨c, p, hc⟩ := hc <;> rw [hc]
    · simp [stopperOk, Ctx.powerOn]
    · simp [stopperOk, toTripped]

/-! ## TRIP lines and ALARM (R32, Law 8) -/

/-- R32 for one block of a running part. -/
abbrev tripBlock (b : Block) : Prop := b.outTrip = true ↔ b.ctx.state = .tripped

/-- A change from a state other than TRIPPED to another keeps R32 with the TRIP line. -/
theorem tripBlock_outside {b b' : Block} (hq : tripBlock b) (h : b.ctx.state ≠ .tripped) (h' : b'.ctx.state ≠ .tripped)
    (ho : b'.outTrip = b.outTrip) : tripBlock b' := by
  rw [tripBlock, ho]
  exact hq.trans (iff_of_false h h')

theorem StageMove.tripOk {b b' : Block} (h : StageMove b b') (hq : tripBlock b) : tripBlock b' := by
  cases h with
  | notes | slot => exact hq
  | trip => simp [tripBlock, toTripped]
  | dwell h | cast _ h => exact tripBlock_outside hq (by simp [h]) (by simp) rfl
  | wait _ h => exact tripBlock_outside hq (by obtain h | h := h <;> simp [h]) (by simp) rfl
  | hold g h => exact tripBlock_outside hq (fun e => by simp [e, holdReturnOf] at h) (by simp) rfl

theorem takeLevel_state (level : Option Nat) (c : Ctx) : (takeLevel level c).state = c.state := by
  unfold takeLevel
  split <;> rfl

theorem loopStep_state (g : StrandCfg) (r : Reading) (c : Ctx) : (loopStep g r c).state = c.state := by
  unfold loopStep
  split <;> rfl

theorem openedBlock_state (g : StrandCfg) (r : Reading) (b : Block) : (openedBlock g r b).ctx.state = b.ctx.state := by
  unfold openedBlock
  rw [takeLevel_state]
  split <;> rfl

theorem BlockMove.tripOk {g : StrandCfg} {b b' : Block} (h : BlockMove g b b') (hq : tripBlock b) : tripBlock b' := by
  cases h with
  | stage h => exact h.tripOk hq
  | opened r _ => exact hq.trans (by rw [openedBlock_state])
  | loop r _ => exact hq.trans (by rw [loopStep_state])
  | speed | dip | holdReturn | lower => exact hq
  | driven => simp [tripBlock]
  | untrip => simp [tripBlock, toIdle]
  | idle _ h | grant _ h | start _ _ _ h => exact tripBlock_outside hq (by simp [h]) (by simp [toIdle, openLoop]) rfl
  | rewrite _ h => exact tripBlock_outside hq (by simp [h]) (by simp [joinChange, h]) rfl
  | resume _ g _ h => exact tripBlock_outside hq (by simp [h]) (by cases g <;> simp [holdState]) rfl
  | stop _ _ h | change _ _ h => exact tripBlock_outside hq h (by simp [toStopping]) rfl
  | tundish _ r lt h =>
    obtain h | ⟨h, -⟩ := stopsAtOverrun_iff.1 h <;>
      exact tripBlock_outside hq (by simp [h]) (by simp [openLoop, h]) rfl
  | freeze _ f h => exact tripBlock_outside hq (fun e => by simp [e, freezeReturnOf] at h) (by simp) rfl
  | thaw _ st hf h =>
    refine tripBlock_outside hq (by simp [hf]) ?_ rfl
    obtain rfl | rfl | rfl | rfl | ⟨rfl, -⟩ := h <;> simp

theorem StageMove.log {b b' : Block} (h : StageMove b b') : b'.log = b.log := by cases h <;> rfl

theorem BlockMove.log {g : StrandCfg} {b b' : Block} (h : BlockMove g b b') : b'.log = b.log := by
  cases h with
  | stage h => exact h.log
  | _ => rfl

theorem anyMark_congr {s t : State} (hs : ∀ n : Strand, t.strands[n].log = s.strands[n].log)
    (hp : t.plantLog = s.plantLog) : anyMark t = anyMark s := by
  rw [Bool.eq_iff_iff, anyMark_eq_true, anyMark_eq_true, hp]
  simp only [hs]

theorem anyMark_putRecord (n : Strand) (r : StrandRec) (s : State) :
    anyMark (putRecord n r s) = (anyMark s || r.mark) := by
  have hn : (putRecord n r s).strands[n].log = logRecord s.strands[n].log r r.kind r.mark :=
    congrArg Block.log (putRecord_val n s r)
  rw [Bool.eq_iff_iff, Bool.or_eq_true, anyMark_eq_true, anyMark_eq_true]
  have hp : (putRecord n r s).plantLog = s.plantLog := rfl
  rw [hp]
  have marked (m : Strand) : logMarked StrandRec.mark (putRecord n r s).strands[m].log = true
      ↔ logMarked StrandRec.mark s.strands[m].log = true ∨ (m = n ∧ r.mark = true) := by
    by_cases hm : m = n
    · subst hm
      rw [hn, logMarked_logRecord]
      simp
    · rw [(putRecord_only n s r).others m hm]
      simp [hm]
  simp only [marked, exists_or, exists_eq_left]
  tauto

theorem anyMark_raisePlant (k : Kind) (l : List Strand) (s : State) :
    anyMark (raisePlant k l s) = (anyMark s || alarmOf s.cfg k) := by
  rw [Bool.eq_iff_iff, Bool.or_eq_true, anyMark_eq_true, anyMark_eq_true]
  have h : logMarked PlantRec.mark (raisePlant k l s).plantLog = (logMarked PlantRec.mark s.plantLog || alarmOf s.cfg k) :=
    logMarked_logRecord PlantRec.mark s.plantLog _ k
  rw [h, Bool.or_eq_true, or_assoc]
  rfl

theorem StrandMove.alarmOk {g : StrandCfg} {n : Strand} {s t : State} (h : StrandMove (BlockMove g) n s t)
    (hq : s.alarm = anyMark s) : t.alarm = anyMark t := by
  cases h with
  | block f h =>
    refine hq.trans (anyMark_congr (s := s) (t := mapBlock n f s) (fun m => ?_) rfl).symm
    by_cases hm : m = n
    · subst hm
      rw [mapBlock_same]
      exact h.log
    · rw [mapBlock_other n m f s hm]
  | record r => rw [anyMark_putRecord, putRecord_alarm, hq]
  | arbiter a => exact hq

theorem Run.alarmOk {c : Cfg} {s t : State} (h : Run c s t) (hq : s.alarm = anyMark s) : t.alarm = anyMark t := by
  induction h with
  | refl => exact hq
  | tail _ hm ih =>
    cases hm with
    | strand m h => exact h.alarmOk ih
    | plant k l =>
      rw [anyMark_raisePlant, ← ih]
      rfl
    | clear m => rfl
    | clearPlant => rfl
    | other hs hl ha => exact ha.trans (ih.trans (anyMark_congr (fun m => by rw [hs]) hl).symm)

/-- Settles O9: along the chain an event makes, and through shutdown, loss of power and the starts. -/
theorem outputAndAlarmLawsKept : Obligations.OutputAndAlarmLawsKept := by
  refine ⟨fun s t hlaw h => ?_, fun s t hlaw h => ?_⟩
  · obtain ⟨hrun, hheld⟩ := id hlaw
    unfold step at h
    split at h
    · cases h
      exact hlaw
    obtain ⟨hp, hr⟩ | ⟨hf, -, hp⟩ | ⟨hs, -, -, hp⟩ | ⟨hp, -, hb⟩ := exec_cases h
    · have hpt := hr.phase.trans hp
      refine ⟨fun _ => hr.keeps (Q := tripBlock) (fun _ _ _ h => h.tripOk) (fun _ _ => id) (hrun hp), fun ho => ?_⟩
      simp [outputsHeld, hpt] at ho
    · refine ⟨fun he => absurd he hp, fun _ n => ?_⟩
      rw [hf n]
      exact ⟨rfl, rfl, rfl⟩
    · rw [outputLaw, outputsHeld, hs]
      obtain hp | hp := hp
      · rw [hp]
        have hc (n : Strand) : ctxOf t n = ctxOf s n := by rw [ctxOf, ctxOf, hs]
        simp only [hc]
        exact hlaw
      · simp [hp]
    · refine ⟨fun _ n => ?_, fun ho => by simp [outputsHeld, hp] at ho⟩
      obtain ⟨-, ⟨hc, ht⟩ | ⟨c, p, hc, ht⟩⟩ := hb n
      · rw [hc, ht]
        exact iff_of_false (by simp) (by simp [Ctx.powerOn])
      · rw [hc, ht]
        exact iff_of_true rfl rfl
  · obtain ⟨hrun, hheld⟩ := id hlaw
    unfold step at h
    split at h
    · cases h
      exact hlaw
    obtain ⟨hp, hr⟩ | ⟨-, ha, hp⟩ | ⟨hs, hl, ha, hp⟩ | ⟨hp, ha, -⟩ := exec_cases h
    · have hpt := hr.phase.trans hp
      exact ⟨fun _ => hr.alarmOk (hrun hp), fun ho => by simp [outputsHeld, hpt] at ho⟩
    · exact ⟨fun he => absurd he hp, fun _ => ha⟩
    · have hm := anyMark_congr (fun n => by rw [hs]) hl
      rw [alarmLaw, outputsHeld, ha]
      obtain hp | hp := hp
      · rw [hp, hm]
        exact hlaw
      · simp [hp]
    · exact ⟨fun _ => ha, fun ho => by simp [outputsHeld, hp] at ho⟩

/-! ## The machine -/

/-- Settles O1. -/
theorem stepTakesTheFrontOrIdles : Obligations.StepTakesTheFrontOrIdles :=
  ⟨fun c rest s h => by rw [step, h], fun s h => by rw [step, h]⟩

theorem Run.pending {c : Cfg} {s t : State} (h : Run c s t) : t.pending = s.pending := by
  induction h with
  | refl => rfl
  | tail _ hm ih =>
    refine Eq.trans ?_ ih
    cases hm with
    | strand m h => cases h <;> rfl
    | other _ _ _ _ hq => exact hq
    | _ => rfl

theorem powerStart_pending (terminals : Vector Sample 6) (volts : Nat) (s : State) :
    (powerStart terminals volts s).pending = s.pending := by
  have driven (u : State) : (driveAlarm u).pending = u.pending := rfl
  unfold powerStart
  rw [driven]
  split
  · rw [powerReturnTrips_rest terminals rfl]
    rfl
  · rfl
  · rfl

theorem forceOutputs_pending (s : State) : (forceOutputs s).pending = s.pending := by
  rw [forceOutputs_rest]

/-- Settles O2. -/
theorem everyCommandAnswersNext : Obligations.EveryCommandAnswersNext := by
  refine ⟨fun i s => ?_, fun i s => exec_discarded⟩
  by_cases hr : ∃ v, i = .replySent v
  · obtain ⟨v, rfl⟩ := hr
    refine ⟨_, rfl, ?_⟩
    unfold whenRunning replyDone
    split
    · split
      · rfl
      · split <;> rfl
    · rfl
  by_cases hc : isPowerCommand i = false
  · obtain ⟨t, ht, hrun⟩ := exec_run hc (fun v e => hr ⟨v, e⟩) s
    exact ⟨t, ht, hrun.pending⟩
  cases i with
  | shutdown =>
    refine ⟨_, rfl, ?_⟩
    unfold supplyFails
    split
    · rw [enterShutdown_rest]
    all_goals rfl
  | snapshotCompletion =>
    refine ⟨_, rfl, ?_⟩
    unfold snapshotDone
    split <;> rfl
  | controlSupplyFailingDeassert =>
    refine ⟨_, rfl, ?_⟩
    unfold supplyRestored
    split <;> rfl
  | controlPowerLoss => exact ⟨_, rfl, rfl⟩
  | powerApplication f => exact ⟨_, rfl, forceOutputs_pending (losePower s)⟩
  | start terminals volts =>
    refine ⟨_, rfl, ?_⟩
    split
    · exact powerStart_pending terminals volts s
    · rfl
  | _ => exact absurd rfl hc

theorem reset_block (n : Strand) : State.reset.strands[n].ctx.plan = none ∧ State.reset.strands[n].force = StrandCfg.factory := by
  simp [State.reset, Ctx.powerOn]

theorem blank_ok : planOk Plan.blank := by
  refine ⟨by decide, fun _ => ⟨rfl, by decide⟩, nofun, nofun, fun i x hx => ?_⟩
  simp [Plan.blank] at hx

/-- Settles O12. -/
theorem lawsHoldAtReset : Obligations.LawsHoldAtReset := by
  refine ⟨by decide, by decide, by decide, by decide, by decide, by decide, by decide, ?_, by decide, by decide,
    by decide, by decide, by decide, ?_, fun n r hr => ?_⟩
  · have strand : strandCfgOk StrandCfg.factory := by decide
    exact ⟨factory_ok, fun n => (reset_block n).2.symm ▸ strand, nofun⟩
  · refine ⟨fun p => ?_, nofun⟩
    have hp : State.reset.plans[p] = Plan.blank := by simp [State.reset]
    exact hp.symm ▸ blank_ok
  · rw [ctxOf, (reset_block n).1] at hr
    cases hr

end Sys2Proof.Machine
end

section
/-! PROOF. The strand verbs (section 1.6) and ACK: their checks in order and the one strand they move. -/

namespace Sys2Proof.Machine

open Sys2Proof

/-- The next state of an operation that stays with its strand, from the block it leaves there and what it leaves in the
arbiter and on ALARM. -/
theorem StrandOnly.eq_set {n : Strand} {s t : State} (h : StrandOnly n s t) {b : Block} {a : Arbiter} {al : Bool}
    (hb : t.strands[n] = b) (ha : t.arb = a) (hal : t.alarm = al) :
    t = { s with strands := s.strands.set n b, arb := a, alarm := al } := by
  have hs : t.strands = s.strands.set n b := by
    refine Vector.ext fun i hi => ?_
    by_cases hin : n.val = i
    · subst hin
      rw [Vector.getElem_set_self]
      exact hb
    · rw [Vector.getElem_set_ne _ _ hin]
      exact h.others ⟨i, hi⟩ fun e => hin (congrArg Fin.val e).symm
  rw [← hs]
  exact h.eq_with ha hal

section Verbs

variable {n : Strand} {s : State}

/-- An accepted verb: its effect at one strand of the state whose line has taken the request, then OK (R178, R180). -/
theorem answer_ok {r : Request} {t : State} {b : Block} {a : Arbiter} {al : Bool}
    (h : StrandOnly n { s with line := lineTaking r s.line } t) (hb : t.strands[n] = b) (ha : t.arb = a)
    (hal : t.alarm = al) :
    answer okPlain t = { answered r { ok := true, fields := [] } s with
      strands := s.strands.set n b, arb := a, alarm := al } := by
  rw [h.eq_set hb ha hal]
  simp [answer, okPlain]

/-! ## HLD -/

theorem mayHold_iff : mayHold s n = true ↔ ∃ g, holdState g = (ctxOf s n).state := by
  simp only [mayHold, Option.isSome_iff_exists, holdReturnOf_eq_some]

theorem exec_hld (h : taken (.hld (n.val + 1)) s) : exec (.hld (n.val + 1)) s
    = .next (if mayHold s n then answer okPlain (holdStrand n { s with line := lineTaking (.hld (n.val + 1)) s.line })
      else answered (.hld (n.val + 1)) (noFor "STATE" []) s) := by
  refine (request_served h (by simp [interfaceRefusal, requestInRange])).trans (congrArg _ ?_)
  simp only [hldAt, strandOf_succ]
  split
  · exact (if_pos ‹_›).symm
  · exact (answer_taking _ s _).trans (if_neg ‹_›).symm

theorem exec_hld_held {g : HoldReturn} (ht : taken (.hld (n.val + 1)) s) (h : holdState g = (ctxOf s n).state) :
    exec (.hld (n.val + 1)) s = .next
      { answered (.hld (n.val + 1)) { ok := true, fields := [] } s with
        strands := s.strands.set n { s.strands[n] with
          ctx := { ctxOf s n with state := .held, holdReturn := some g, lag := 0 } }
        arb := if (ctxOf s n).state = .waitPermit then { s.arb with queue := s.arb.queue.filter (·.strand != n) }
               else s.arb } := by
  have hw : g = .waitPermit ↔ (ctxOf s n).state = .waitPermit := by rw [← h]; cases g <;> simp [holdState]
  rw [exec_hld ht, if_pos (mayHold_iff.2 ⟨g, h⟩), answer_ok (holdStrand_only n _) (holdStrand_block n _ h)
    (holdStrand_arb n _ h) (holdStrand_alarm n _)]
  simp only [hw]
  rfl

/-! ## STP -/

theorem exec_stp (h : taken (.stp (n.val + 1)) s) : exec (.stp (n.val + 1)) s
    = .next (if mayStop s n then answer okPlain (enterStopping n { s with line := lineTaking (.stp (n.val + 1)) s.line })
      else answered (.stp (n.val + 1)) (noFor "STATE" []) s) := by
  refine (request_served h (by simp [interfaceRefusal, requestInRange])).trans (congrArg _ ?_)
  simp only [stpAt, strandOf_succ, stopStrand]
  split
  · rename_i hm
    exact (if_pos hm).symm
  · exact (answer_taking _ s _).trans (if_neg ‹_›).symm

theorem givesBack_iff {c : Ctx} {next : StrandState} (hr : next ≠ .ramp) (hh : next ≠ .held) :
    givesBack c next ↔ holdsRamp c := by
  simp [givesBack, holdsRamp, hr, hh]

/-- A strand that goes on to neither RAMP nor HELD holds no permit after a state that holds one (R99, R106). -/
theorem permitAfter_eq {c : Ctx} {next : StrandState} (hr : next ≠ .ramp) (hh : next ≠ .held) :
    permitAfter c next = if holdsRamp c then false else c.permit :=
  if_congr (givesBack_iff hr hh) rfl rfl

theorem arbAfter_eq {c : Ctx} {next : StrandState} (hr : next ≠ .ramp) (hh : next ≠ .held) (n : Strand) (a : Arbiter) :
    arbAfter n c next a = { a with
      queue := if c.state = .waitPermit then a.queue.filter (·.strand != n) else a.queue
      holders := if holdsRamp c then a.holders.filter (· != n) else a.holders } := by
  have hl : leavesQueue c next ↔ c.state = .waitPermit := by simp [leavesQueue, hr]
  simp only [arbAfter, givesBack_iff hr hh, hl]

theorem exec_stp_stopped (ht : taken (.stp (n.val + 1)) s) (h : mayStop s n = true) :
    exec (.stp (n.val + 1)) s = .next
      { answered (.stp (n.val + 1)) { ok := true, fields := [] } s with
        strands := s.strands.set n { s.strands[n] with
          outStopper := 0
          ctx := { ctxOf s n with
            state := .stopping, stopper := 0, mode := .off, integrator := 0, kind := none, plan := none
            slot := none, target := none, holdReturn := none, freezeReturn := none, lag := 0
            permit := if holdsRamp (ctxOf s n) then false else (ctxOf s n).permit } }
        arb := { s.arb with
          queue := if (ctxOf s n).state = .waitPermit then s.arb.queue.filter (·.strand != n) else s.arb.queue
          holders := if holdsRamp (ctxOf s n) then s.arb.holders.filter (· != n) else s.arb.holders } } := by
  rw [exec_stp ht, if_pos h, answer_ok (enterStopping_only n _) (enterStopping_block n _) (leaveFor_arb n .stopping _)
    (leaveFor_alarm n .stopping _)]
  rw [show ctxOf { s with line := lineTaking (.stp (n.val + 1)) s.line } n = ctxOf s n from rfl,
    permitAfter_eq (by decide) (by decide), arbAfter_eq (by decide) (by decide)]
  rfl

/-! ## RES -/

theorem exec_res {plan : Option Nat} (h : taken (.res (n.val + 1) plan) s) (hp : planArgInRange plan = true) :
    exec (.res (n.val + 1) plan) s
      = .next (resAt (n.val + 1) plan { s with line := lineTaking (.res (n.val + 1) plan) s.line }) :=
  request_served h (by simp [interfaceRefusal, requestInRange, hp])

theorem resAt_held {g : HoldReturn} (hs : (ctxOf s n).state = .held) (hg : (ctxOf s n).holdReturn = some g) :
    resAt (n.val + 1) none s = answer okPlain (resumeStrand n g s) := by
  simp [resAt, hs, hg]

theorem resAt_refused {plan : Option Nat} (h : plan ≠ none ∨ (ctxOf s n).state ≠ .held) :
    resAt (n.val + 1) plan s = answer (noFor "STATE" []) s := by
  unfold resAt
  rw [strandOf_succ]
  dsimp only
  split
  · rename_i h' _
    exact absurd h (by simp [h'])
  · rfl

theorem resumeStrand_only (n : Strand) (g : HoldReturn) (s : State) : StrandOnly n s (resumeStrand n g s) := by
  unfold resumeStrand
  split
  · exact (mapCtx_only n s _).trans (enqueue_only n _)
  all_goals exact mapCtx_only n s _

@[simp] theorem enqueue_strands (n : Strand) (s : State) : (enqueue n s).strands = s.strands := rfl

theorem enqueue_arb (n : Strand) (s : State) : (enqueue n s).arb = { s.arb with
    queue := place { strand := n, cls := classOf (ctxOf s n).kind, time := s.store.time } s.arb.queue } := rfl

/-- A defined slot of a stored plan (R50). -/
theorem slotOf_eq {p : PlanNo} {i : Nat} {y : Slot} (h : s.plans[p].slots[i - 1]? = some (some y)) : slotOf s p i = y := by
  unfold slotOf
  rw [h]

/-- The first slot of the plan a strand references (R50). -/
theorem planSlot_first {m : Strand} {p : PlanNo} {rev : Nat} {y : Slot} (h : s.plans[p].slots[0] = some y) :
    planSlot s m (.plan p rev) 1 = y :=
  slotOf_eq (by simpa using h)

theorem refOf_eq {m : Strand} {r : PlanRef} (h : (ctxOf s m).plan = some r) : refOf s m = r :=
  congrArg (Option.getD · PlanRef.fallback) h

/-- Settles O52. -/
theorem hldResAndStpMoveOneStrand : Obligations.HldResAndStpMoveOneStrand := by
  intro n s
  refine ⟨fun ht => ⟨fun g hg => exec_hld_held ht hg, fun hg => ?_⟩,
    fun ht => ⟨fun hi hst htr => exec_stp_stopped ht (mayStop_iff.2 ⟨hi, hst, htr⟩), fun hno => ?_⟩,
    fun ht => ⟨fun hs g hg hw => ?_, fun hs hg => ?_, fun hs => ?_⟩, fun p h1 h2 ht => ?_⟩
  · rw [exec_hld ht, if_neg]
    · rfl
    · rw [mayHold_iff]
      exact fun ⟨g, h⟩ => hg g h
  · rw [exec_stp ht, if_neg]
    · rfl
    · rw [mayStop_iff]
      rintro ⟨hi, hst, htr⟩
      obtain h | h | h := hno <;> contradiction
  · rw [exec_res ht rfl, resAt_held (s := { s with line := lineTaking (.res (n.val + 1) none) s.line }) hs hg, answer_ok (b := { s.strands[n] with
      ctx := { ctxOf s n with state := holdState g, holdReturn := none } }) (a := s.arb) (al := s.alarm)
      (resumeStrand_only n g _)]
    all_goals
      cases g with
      | waitPermit => exact absurd rfl hw
      | _ => first | exact mapCtx_block n _ _ | rfl
  · refine ⟨(planSlot s n (refOf s n) 1).level, fun p rev y hp hy => ?_, fun hp => ?_, ?_⟩
    · rw [refOf_eq hp, planSlot_first hy]
    · rw [refOf_eq hp]
      rfl
    · rw [exec_res ht rfl, resAt_held (s := { s with line := lineTaking (.res (n.val + 1) none) s.line }) hs hg, answer_ok (b := { s.strands[n] with ctx := { ctxOf s n with
          state := .waitPermit, holdReturn := none, levelTarget := (planSlot s n (refOf s n) 1).level } })
        (a := { s.arb with
          queue := place { strand := n, cls := classOf (ctxOf s n).kind, time := s.store.time } s.arb.queue })
        (al := s.alarm) (resumeStrand_only n .waitPermit _)]
      · unfold resumeStrand
        dsimp only
        rw [enqueue_strands]
        exact mapCtx_block n _ _
      · refine (enqueue_arb n _).trans ?_
        rw [ctxOf_mapCtx]
        rfl
      · rfl
  · rw [exec_res ht rfl, resAt_refused (s := { s with line := lineTaking (.res (n.val + 1) none) s.line }) (.inr hs), answer_taking]
    rfl
  · rw [exec_res ht (by simp [planArgInRange, planInRange, within, h1, h2]), 
      resAt_refused (s := { s with line := lineTaking (.res (n.val + 1) (some p)) s.line }) (.inl (by simp)),
      answer_taking]
    rfl

/-! ## REL and ACK -/

theorem exec_rel {m : Nat} (h : taken (.rel (n.val + 1)) s) : exec (.rel (n.val + 1) m) s
    = .next (relAt (n.val + 1) m { s with line := lineTaking (.rel (n.val + 1)) s.line }) :=
  request_served h (by simp [interfaceRefusal, requestInRange])

theorem relAt_refused {m : Nat} {reason : String} (h : relChecks s n m = some reason) :
    relAt (n.val + 1) m s = answer (noFor reason []) s := by
  simp [relAt, h]

theorem relAt_released {m : Nat} (h : relChecks s n m = none) :
    relAt (n.val + 1) m s = answer okPlain (releaseTrip n s) := by
  simp [relAt, h]

theorem releaseTrip_only (n : Strand) (s : State) : StrandOnly n s (releaseTrip n s) :=
  (enterIdle_only n s).trans (mapBlock_only n _ _)

theorem releaseTrip_block (n : Strand) (s : State) : (releaseTrip n s).strands[n]
    = { s.strands[n] with ctx := toIdle (ctxOf s n), outStopper := 0, outTrip := false } := by
  unfold releaseTrip enterIdle
  rw [mapBlock_mapBlock, mapBlock_same]
  rfl

theorem limitMeasured_lt {m : Nat} : limitMeasured m < 10 ↔ m < 10 := by
  unfold limitMeasured
  omega

/-- The checks of REL in order (R37). -/
theorem relChecks_state {m : Nat} (h : (ctxOf s n).state ≠ .tripped) : relChecks s n m = some "STATE" := if_pos h

theorem relChecks_pending {m : Nat} (h : (ctxOf s n).state = .tripped) (hl : s.strands[n].log.first ≠ none) :
    relChecks s n m = some "PENDING" :=
  (if_neg (not_not.2 h)).trans (if_pos (Option.isSome_iff_ne_none.2 hl))

theorem relChecks_speed {m : Nat} (h : (ctxOf s n).state = .tripped) (hl : s.strands[n].log.first = none) :
    relChecks s n m = if m < 10 then none else some "STATE" :=
  (if_neg (not_not.2 h)).trans ((if_neg (by rw [hl]; decide)).trans (if_congr limitMeasured_lt rfl rfl))

theorem exec_ack {l : LogSel} (h : taken (.ack l) s) (hl : logSelInRange l = true) :
    exec (.ack l) s = .next (ackAt l { s with line := lineTaking (.ack l) s.line }) :=
  request_served h (by simp [interfaceRefusal, requestInRange, hl])

theorem logMarked_empty {ρ : Type} (mark : ρ → Bool) : logMarked mark Log.empty = false := rfl

theorem ackAt_strand : ackAt (.strand (n.val + 1)) s = answer okPlain (clearLog n s) := by simp [ackAt]

/-- ALARM after the log of strand `n` is cleared (R159, R160). -/
theorem clearLog_alarm : (clearLog n s).alarm = true
    ↔ (∃ k : Strand, k ≠ n ∧ logMarked StrandRec.mark s.strands[k].log = true)
      ∨ logMarked PlantRec.mark s.plantLog = true := by
  refine anyMark_eq_true.trans (or_congr (exists_congr fun k => ?_) Iff.rfl)
  by_cases hk : k = n
  · subst hk
    rw [mapBlock_same]
    simp [logMarked_empty]
  · rw [mapBlock_other n k _ s hk]
    simp [hk]

/-- Settles O54. -/
theorem relAndAckFollowTheirChecks : Obligations.RelAndAckFollowTheirChecks := by
  intro n m s
  have no {reason : String} (ht : taken (.rel (n.val + 1)) s)
      (hc : relChecks { s with line := lineTaking (.rel (n.val + 1)) s.line } n m = some reason) :
      exec (.rel (n.val + 1) m) s
        = .next (answered (.rel (n.val + 1)) { ok := false, fields := [word reason] } s) := by
    rw [exec_rel ht, relAt_refused hc, answer_taking]
    rfl
  refine ⟨fun ht => ⟨fun h => no ht (relChecks_state h), fun h hl => no ht (relChecks_pending h hl),
    fun h hl hm => no ht ((relChecks_speed h hl).trans (if_neg (by omega))), fun h hl hm => ?_⟩,
    fun ht => ⟨_, (exec_ack ht (by simp [logSelInRange])).trans (congrArg _ ackAt_strand), ?_, clearLog_alarm⟩,
    fun ht => ⟨_, exec_ack ht rfl, ?_, ?_⟩⟩
  · have hc : relChecks { s with line := lineTaking (.rel (n.val + 1)) s.line } n m = none :=
      (relChecks_speed h hl).trans (if_pos hm)
    rw [exec_rel ht, relAt_released hc, answer_ok (a := s.arb) (al := s.alarm) (releaseTrip_only n _)
      (releaseTrip_block n _) rfl rfl]
    rfl
  · simp [answer, okPlain, clearLog, driveAlarm, mapBlock, Log.empty]
  · simp [ackAt, answer, okPlain, clearPlantLog, driveAlarm, Log.empty]
  · refine anyMark_eq_true.trans ?_
    simp [logMarked_empty]

/-! ## BEG -/

theorem exec_beg {plan : Option Nat} {seated ready : Bool} (h : taken (.beg (n.val + 1) plan) s)
    (hp : planArgInRange plan = true) : exec (.beg (n.val + 1) plan seated ready) s
      = .next (begAt (n.val + 1) plan seated ready { s with line := lineTaking (.beg (n.val + 1) plan) s.line }) :=
  request_served h (by simp [interfaceRefusal, requestInRange, hp])

theorem begAt_refused {plan : Option Nat} {seated ready : Bool} {reason : String}
    (h : begChecks s n plan seated ready = .error reason) :
    begAt (n.val + 1) plan seated ready s = answer (noFor reason []) s := by
  simp [begAt, h]

theorem begAt_begins {plan : Option Nat} {seated ready : Bool} {r : PlanRef}
    (h : begChecks s n plan seated ready = .ok r) :
    begAt (n.val + 1) plan seated ready s = answer okPlain (beginStart n r s) := by
  simp [begAt, h]

theorem beginStart_only (n : Strand) (r : PlanRef) (s : State) : StrandOnly n s (beginStart n r s) :=
  (mapCtx_only n s _).trans (mapBlock_only n _ _)

theorem beginStart_block (n : Strand) (r : PlanRef) (s : State) : (beginStart n r s).strands[n]
    = openLoop (planFill s n r) { s.strands[n] with
        ctx := { restartCtx .start r (ctxOf s n) with state := .fill }, active := activeAtBegin s.strands[n].active } := by
  unfold beginStart mapCtx
  rw [mapBlock_mapBlock, mapBlock_same]
  rfl

section Checks

variable {plan : Option Nat} {seated ready : Bool}

/-- The first two checks of BEG (R33). -/
abbrev begReady (s : State) (n : Strand) (seated ready : Bool) : Prop :=
  ((ctxOf s n).state = .idle ∧ s.cfg.strands[n].enabled = true) ∧ seated = true ∧ ready = true

theorem begChecks_state (h : ¬ ((ctxOf s n).state = .idle ∧ s.cfg.strands[n].enabled = true)) :
    begChecks s n plan seated ready = .error "STATE" := by
  refine if_pos ?_
  rw [not_and_or, Bool.not_eq_true] at h
  exact h

theorem begChecks_notReady (h : (ctxOf s n).state = .idle ∧ s.cfg.strands[n].enabled = true)
    (hr : ¬ (seated = true ∧ ready = true)) : begChecks s n plan seated ready = .error "NOTREADY" := by
  obtain ⟨hi, he⟩ := h
  refine (if_neg ?_).trans (if_pos ?_)
  · rw [hi, he]
    decide
  · rw [Bool.not_eq_true', ← Bool.not_eq_true, Bool.and_eq_true]
    exact hr

/-- Checks 3 to 5 of BEG, once the strand is ready (R33). -/
theorem begChecks_ready (h : begReady s n seated ready) : begChecks s n plan seated ready
    = if s.mon.state ≠ .normal then .error "SUPPLY" else if s.coord.state ≠ .noChange then .error "CHANGE"
      else match usableRef s (soughtStart s n plan) .start with
        | some r => .ok r
        | none => .error "PLAN" := by
  obtain ⟨⟨hi, he⟩, rfl, rfl⟩ := h
  refine (if_neg ?_).trans ((if_neg (by decide)).trans rfl)
  rw [hi, he]
  decide

end Checks

/-- Settles O51: the checks fail in the order of R33, and the plan sought is usable exactly where check 5 passes. -/
theorem begMakesItsChecksInOrder : Obligations.BegMakesItsChecksInOrder := by
  intro n plan seated ready s hplan ht
  have hp : planArgInRange plan = true := by
    cases plan with
    | none => rfl
    | some p => simp [planArgInRange, planInRange, within, hplan p rfl]
  have no {reason : String} (hc : begChecks s n plan seated ready = .error reason) :
      exec (.beg (n.val + 1) plan seated ready) s
        = .next (answered (.beg (n.val + 1) plan) { ok := false, fields := [word reason] } s) := by
    rw [exec_beg ht hp, begAt_refused (s := { s with line := lineTaking (.beg (n.val + 1) plan) s.line }) hc,
      answer_taking]
    rfl
  refine ⟨fun h => no (begChecks_state h), fun h hr => no (begChecks_notReady h hr), fun h hr hs => no ?_,
    fun h hr hs hc => no ?_, fun h hr hs hc hu => no ?_, fun h hr hs hc p hd hn hv hh hk => ⟨?_, fun ho => ?_⟩⟩
  · rw [begChecks_ready ⟨h, hr⟩, if_pos hs]
  · rw [begChecks_ready ⟨h, hr⟩, if_neg (not_not.2 hs), if_pos hc]
  · rw [begChecks_ready ⟨h, hr⟩, if_neg (not_not.2 hs), if_neg (not_not.2 hc)]
    cases href : usableRef s (soughtStart s n plan) .start with
    | none => rfl
    | some r =>
      obtain ⟨p, hn, hv, ⟨hd, hh, hk⟩, -⟩ := usableRef_eq_some.1 href
      exact absurd hk (hu p hd hn hv hh)
  · have href : usableRef s (soughtStart s n plan) .start = some (.plan p s.plans[p].rev) :=
      usableRef_eq_some.2 ⟨p, hn, hv, ⟨hd, hh, hk⟩, rfl⟩
    have hok : begChecks s n plan seated ready = .ok (.plan p s.plans[p].rev) := by
      rw [begChecks_ready ⟨h, hr⟩, if_neg (not_not.2 hs), if_neg (not_not.2 hc), href]
    have hfill : headerOf s p = hd := congrArg (Option.getD · (Config.absentHeader p)) hh
    rw [exec_beg ht hp, begAt_begins (s := { s with line := lineTaking (.beg (n.val + 1) plan) s.line }) hok,
      answer_ok (a := s.arb) (al := s.alarm) (beginStart_only n _ _) (beginStart_block n _ _) rfl rfl, ← hfill]
    rfl
  · obtain ⟨-, -, -, -, h0⟩ := ho
    exact h0 (.inl h.1)

end Verbs

end Sys2Proof.Machine
end

section
/-! PROOF. The events that reach every strand: change begin and the window's expiry, the freeze and the outage, HLD ALL
and STP ALL. -/

namespace Sys2Proof.Machine

open Sys2Proof

/-! ## The arbiter after an event that reaches all strands -/

/-- What the arbiter keeps once every strand of `l` that satisfies `q` has left the queue and every one that satisfies `p`
has given its permit back. -/
def arbWithout (l : List Strand) (q p : Strand → Bool) (a : Arbiter) : Arbiter :=
  { a with
    queue := a.queue.filter fun e => !(decide (e.strand ∈ l) && q e.strand)
    holders := a.holders.filter fun n => !(decide (n ∈ l) && p n) }

theorem filter_leaving {α : Type} (key : α → Strand) (q q' : Strand → Bool) {m : Strand} {l : List Strand} (hm : m ∉ l)
    (hq : ∀ k ∈ l, q' k = q k) (xs : List α) :
    (if q m then xs.filter (key · != m) else xs).filter (fun x => !(decide (key x ∈ l) && q' (key x)))
      = xs.filter fun x => !(decide (key x ∈ m :: l) && q (key x)) := by
  split
  · rw [List.filter_filter]
    refine List.filter_congr fun x _ => ?_
    by_cases hx : key x = m
    · simp [*]
    · by_cases hl : key x ∈ l
      · simp [hx, hl, hq _ hl]
      · simp [hx, hl]
  · refine List.filter_congr fun x _ => ?_
    by_cases hx : key x = m
    · simp_all
    · by_cases hl : key x ∈ l
      · simp [hx, hl, hq _ hl]
      · simp [hx, hl]

theorem foldl_arb {f : Strand → State → State} {q p : Ctx → Bool} (hf : ∀ m t, StrandOnly m t (f m t))
    (ha : ∀ m t, (f m t).arb = { t.arb with
      queue := if q (ctxOf t m) then t.arb.queue.filter (·.strand != m) else t.arb.queue
      holders := if p (ctxOf t m) then t.arb.holders.filter (· != m) else t.arb.holders })
    {l : List Strand} (hl : l.Nodup) (s : State) : (l.foldl (fun t m => f m t) s).arb
      = arbWithout l (fun m => q (ctxOf s m)) (fun m => p (ctxOf s m)) s.arb := by
  induction l generalizing s with
  | nil => simp [arbWithout]
  | cons m l ih =>
    obtain ⟨hm, hl⟩ := List.nodup_cons.1 hl
    have same {c : Ctx → Bool} : ∀ k ∈ l, c (ctxOf (f m s) k) = c (ctxOf s k) := fun k hk =>
      congrArg (fun b : Block => c b.ctx) ((hf m s).others k fun e => hm (e ▸ hk))
    rw [List.foldl_cons, ih hl, ha m s]
    unfold arbWithout
    congr 1
    · exact filter_leaving id (fun k => p (ctxOf s k)) _ hm same _
    · exact filter_leaving QEntry.strand (fun k => q (ctxOf s k)) _ hm same _

/-- The arbiter after an event at whose parts a strand leaves the queue and gives its permit back as its own context
says. -/
theorem forEach_arb {f : Strand → State → State} {q p : Ctx → Bool} (hf : ∀ m t, StrandOnly m t (f m t))
    (ha : ∀ m t, (f m t).arb = { t.arb with
      queue := if q (ctxOf t m) then t.arb.queue.filter (·.strand != m) else t.arb.queue
      holders := if p (ctxOf t m) then t.arb.holders.filter (· != m) else t.arb.holders }) (s : State) :
    (forEach f s).arb = { s.arb with
      queue := s.arb.queue.filter fun e => !q (ctxOf s e.strand)
      holders := s.arb.holders.filter fun n => !p (ctxOf s n) } := by
  have all (n : Strand) : n ∈ allStrands := by revert n; decide
  refine (foldl_arb hf ha (by decide) s).trans ?_
  simp [arbWithout, all]

/-- Strand by strand what an event that reaches all strands leaves, where a part's block follows from the block it finds
and from what no part touches. -/
theorem forEach_block {f : Strand → State → State} (hf : ∀ m t, StrandOnly m t (f m t)) {s : State} {n : Strand}
    {Q : Block → Prop} (h : ∀ t, SameRest s t → t.strands[n] = s.strands[n] → Q (f n t).strands[n]) :
    Q (forEach f s).strands[n] := by
  obtain ⟨-, t, hr, ht, he⟩ := forEach_strand hf s n
  exact he.symm ▸ h t hr ht

theorem forEach_rest {f : Strand → State → State} (hf : ∀ m t, StrandOnly m t (f m t)) (s : State) :
    SameRest s (forEach f s) := (forEach_strand hf s 0).1

theorem forEach_alarm {f : Strand → State → State} (ha : ∀ m t, (f m t).alarm = t.alarm) (s : State) :
    (forEach f s).alarm = s.alarm :=
  forEach_keeps (P := fun t => t.alarm = s.alarm) (fun m t ht => (ha m t).trans ht) rfl

/-- The whole next state of an event that reaches all strands, but for its blocks. -/
theorem forEach_eq {f : Strand → State → State} (hf : ∀ m t, StrandOnly m t (f m t)) {s : State} {a : Arbiter} {b : Bool}
    (ha : (forEach f s).arb = a) (hb : (forEach f s).alarm = b) :
    forEach f s = { s with strands := (forEach f s).strands, arb := a, alarm := b } := by
  subst ha hb
  exact forEach_rest hf s

section Leave

variable {n : Strand} {s : State}

/-- The conditions of `arbAfter` as tests of a context. -/
def waits (c : Ctx) : Bool := decide (c.state = .waitPermit)

def holds (c : Ctx) : Bool := decide (holdsRamp c)

theorem arbAfter_tests {c : Ctx} {next : StrandState} (hr : next ≠ .ramp) (hh : next ≠ .held) (n : Strand) (a : Arbiter) :
    arbAfter n c next a = { a with
      queue := if waits c then a.queue.filter (·.strand != n) else a.queue
      holders := if holds c then a.holders.filter (· != n) else a.holders } := by
  rw [arbAfter_eq hr hh]
  simp [waits, holds]

theorem arb_stays {c : Ctx} (h : c.state ≠ .waitPermit) (h' : ¬ holdsRamp c) (n : Strand) (a : Arbiter) :
    a = { a with
      queue := if waits c then a.queue.filter (·.strand != n) else a.queue
      holders := if holds c then a.holders.filter (· != n) else a.holders } := by
  simp [waits, holds, h, h']

/-! ## Change begin -/

theorem changeBeginAt_arb (n : Strand) (s : State) : (changeBeginAt n s).arb = { s.arb with
    queue := if waits (ctxOf s n) then s.arb.queue.filter (·.strand != n) else s.arb.queue
    holders := if holds (ctxOf s n) then s.arb.holders.filter (· != n) else s.arb.holders } := by
  have enter : (enterChange n s).arb = _ := (leaveFor_arb n .change s).trans (arbAfter_tests (by decide) (by decide) n _)
  unfold changeBeginAt
  split
  case h_7 h =>
    split
    · exact arb_stays (by simp [h]) (by simp [h]) n _
    · exact arb_stays (by simp [h]) (by simp [h]) n _
  case h_8 h | h_9 h | h_10 h | h_11 h => exact arb_stays (by simp [h]) (by simp [h]) n _
  all_goals exact enter

theorem changeBeginAt_alarm (n : Strand) (s : State) : (changeBeginAt n s).alarm = s.alarm := by
  unfold changeBeginAt
  split
  case h_7 => split <;> rfl
  case h_8 | h_9 | h_10 | h_11 => rfl
  all_goals exact leaveFor_alarm n .change s

theorem takeResume_eq (c : Ctx) : takeResume c = some (c.resume.getD c.speed) := by
  unfold takeResume
  split <;> simp [*]

/-- Under Law 2 a strand that goes on to neither RAMP nor HELD holds no permit. -/
theorem permitAfter_lawful (h : permitLaw s) {next : StrandState} (hr : next ≠ .ramp) (hh : next ≠ .held) :
    permitAfter (ctxOf s n) next = false := by
  obtain ⟨-, -, hp, -⟩ := h
  rw [permitAfter_eq hr hh]
  split
  · rfl
  · rename_i hn
    exact Bool.eq_false_iff.2 fun e => hn ((hp n).1 e)

/-- The seven states of `stopsAtOverrun` and of R23 taken apart. -/
theorem changeBeginAt_enters (h : (ctxOf s n).state = .fill ∨ (ctxOf s n).state = .dwell
    ∨ (ctxOf s n).state = .waitPermit ∨ (ctxOf s n).state = .ramp ∨ (ctxOf s n).state = .cast
    ∨ (ctxOf s n).state = .held) : changeBeginAt n s = enterChange n s := by
  unfold changeBeginAt
  obtain h | h | h | h | h | h := h <;> rw [h]

theorem changeBeginAt_rewrites (h : (ctxOf s n).state = .frozen) (hf : (ctxOf s n).freezeReturn ≠ some .change) :
    changeBeginAt n s = rewriteToChange n s := by
  unfold changeBeginAt
  rw [h]
  exact if_neg hf

theorem changeBeginAt_none (h : (ctxOf s n).state = .idle ∨ (ctxOf s n).state = .stopping
    ∨ (ctxOf s n).state = .tripped ∨ (ctxOf s n).state = .change
    ∨ ((ctxOf s n).state = .frozen ∧ (ctxOf s n).freezeReturn = some .change)) : changeBeginAt n s = s := by
  unfold changeBeginAt
  obtain h | h | h | h | ⟨h, hf⟩ := h <;> rw [h]
  exact if_pos hf

/-- Laws 2 and 3 leave queue and holders empty once every strand that waits or holds a permit has left (R106, R107). -/
theorem emptied_of_laws (hp : permitLaw s) (hq : queueLaw s) :
    { s.arb with
      queue := s.arb.queue.filter fun e => !waits (ctxOf s e.strand)
      holders := s.arb.holders.filter fun n => !holds (ctxOf s n) }
      = { holders := [], queue := [], spacing := s.arb.spacing } := by
  obtain ⟨-, hh, hr, -⟩ := hp
  obtain ⟨-, hw⟩ := hq
  have queue : (s.arb.queue.filter fun e => !waits (ctxOf s e.strand)) = [] := by
    refine List.filter_eq_nil_iff.2 fun e he => ?_
    simp [waits, (hw e.strand).1 (List.mem_map_of_mem he)]
  have holders : (s.arb.holders.filter fun n => !holds (ctxOf s n)) = [] := by
    refine List.filter_eq_nil_iff.2 fun n hn => ?_
    simp only [holds, (hr n).1 ((hh n).1 hn), decide_true]
    decide
  rw [queue, holders]

theorem lineStep_same (taken : Bool) (run : Nat) : lineStep taken taken run = ⟨taken, 0, false⟩ := if_pos rfl

theorem lineStep_rises : lineStep true false 2 = ⟨true, 0, true⟩ := rfl

/-- A sample that takes the rising edge of CHANGE_BEGIN and none of NEW_SEATED (R111). -/
theorem exec_beginEdge {f : Bool} (h : s.phase = .running) (hb : s.coord.takenBegin = false) (hr : s.coord.runBegin = 2) :
    exec (.carLineSampling true s.coord.takenSeated f) s
      = .next (beginEdge (sampleLines ⟨true, 0, true⟩ ⟨s.coord.takenSeated, 0, false⟩ s)) := by
  refine congrArg _ ((if_pos h).trans ?_)
  unfold sampleCar
  rw [hb, hr, lineStep_rises, lineStep_same]
  cases f <;> rfl

/-- Settles O32: each strand's part is what `changeBeginAt` does to the block the event found there, and Laws 2 and 3 say
that queue and holders are then empty. -/
theorem changeBeginTakesEveryStrand : Obligations.ChangeBeginTakesEveryStrand := by
  intro f s h hp hq hb hr
  refine ⟨fun hc => ?_, fun hc => ?_⟩
  · generalize hu : { sampleLines ⟨true, 0, true⟩ ⟨s.coord.takenSeated, 0, false⟩ s with
        coord := { state := .changing, window := some (s.cfg.plant.tchange * 1000), takenBegin := true,
                   takenSeated := s.coord.takenSeated, runBegin := 0, runSeated := 0 : Coordinator } } = u
    have hedge : beginEdge (sampleLines ⟨true, 0, true⟩ ⟨s.coord.takenSeated, 0, false⟩ s) = forEach changeBeginAt u := by
      rw [← hu]
      exact if_pos hc
    have hctx (n : Strand) : ctxOf u n = ctxOf s n := by rw [← hu]; rfl
    have hblock (n : Strand) : u.strands[n] = s.strands[n] := by rw [← hu]; rfl
    have part {n : Strand} {b : Block} (hb : ∀ t, ctxOf t n = ctxOf s n → t.strands[n] = s.strands[n] →
        (changeBeginAt n t).strands[n] = b) : (forEach changeBeginAt u).strands[n] = b :=
      forEach_block changeBeginAt_only (Q := (· = b)) fun t _ ht =>
        hb t ((congrArg Block.ctx ht).trans (hctx n)) (ht.trans (hblock n))
    have harb : (forEach changeBeginAt u).arb = { holders := [], queue := [], spacing := s.arb.spacing } := by
      rw [forEach_arb changeBeginAt_only changeBeginAt_arb, ← hu]
      exact emptied_of_laws hp hq
    refine ⟨_, (exec_beginEdge h hb hr).trans (congrArg _ hedge), ?_, fun n => ⟨fun hn => ?_, fun hn hf => ?_, fun hn => ?_⟩⟩
    · refine (forEach_eq changeBeginAt_only harb (forEach_alarm changeBeginAt_alarm u)).trans ?_
      rw [← hu]
      rfl
    · refine part fun t hc ht => ?_
      rw [changeBeginAt_enters (hc.symm ▸ hn), enterChange_block, hc, ht, permitAfter_lawful hp (by decide) (by decide),
        joinChange, takeResume_eq]
    · refine part fun t hc ht => ?_
      rw [changeBeginAt_rewrites (hc.symm ▸ hn) (hc.symm ▸ hf), rewriteToChange, mapBlock_same, ht, joinChange,
        takeResume_eq]
      rfl
    · refine part fun t hc ht => ?_
      rw [changeBeginAt_none (hc.symm ▸ hn), ht]
  · rw [exec_beginEdge h hb hr]
    exact congrArg _ (if_neg (by simp [sampleLines, hc]))

/-! ## The window's expiry -/

/-- A record of a strand made after other strands' parts of the same event is the one made before them (R156). -/
theorem strandRecord_congr {t : State} {k : Kind} (hr : SameRest s t) (hb : t.strands[n] = s.strands[n]) :
    strandRecord t n k (observed t n) = strandRecord s n k (observed s n) := by
  have hc : ctxOf t n = ctxOf s n := congrArg Block.ctx hb
  have hs : t.store = s.store := by rw [hr]
  have hg : t.cfg = s.cfg := by rw [hr]
  have ho : observed t n = observed s n := by rw [observed, observed, hb, hs]
  rw [strandRecord, strandRecord, hc, hs, hg, ho]

/-- In the states a freeze or a change leaves a strand in, it has no message for the arbiter. -/
theorem leaveFor_arb_stays {next : StrandState} (h : (ctxOf s n).state = .change ∨ (ctxOf s n).state = .frozen) :
    (leaveFor n next s).arb = s.arb := by
  rw [leaveFor_arb]
  obtain h | h := h <;> simp [arbAfter, givesBack, leavesQueue, h]

theorem permitAfter_stays {c : Ctx} {next : StrandState} (h : c.state = .change ∨ c.state = .frozen) :
    permitAfter c next = c.permit := by
  obtain h | h := h <;> simp [permitAfter, givesBack, h]

theorem overrunAt_stops (h : stopsAtOverrun (ctxOf s n) = true) :
    overrunAt n s = enterStopping n (raise n .changeOverrun s) :=
  (if_pos h).trans (if_pos (by rwa [ctxOf_raise]))

theorem overrunAt_block (h : stopsAtOverrun (ctxOf s n) = true) : (overrunAt n s).strands[n] = { s.strands[n] with
    outStopper := 0
    log := logRecord s.strands[n].log (strandRecord s n .changeOverrun (observed s n)) .changeOverrun
      (alarmOf s.cfg .changeOverrun)
    ctx := toStopping (ctxOf s n) } := by
  have hblock : (raise n .changeOverrun s).strands[n] = _ := raise_val n s .changeOverrun
  rw [overrunAt_stops h, enterStopping_block, ctxOf_raise,
    permitAfter_stays ((stopsAtOverrun_iff.1 h).imp_right And.left), hblock]
  rfl

theorem overrunAt_arb (n : Strand) (s : State) : (overrunAt n s).arb = s.arb := by
  by_cases h : stopsAtOverrun (ctxOf s n) = true
  · rw [overrunAt_stops h]
    refine leaveFor_arb_stays ?_
    rw [ctxOf_raise]
    exact (stopsAtOverrun_iff.1 h).imp_right And.left
  · rw [overrunAt, if_neg h]

/-- Settles O34. -/
theorem windowExpiryStopsTheChange : Obligations.WindowExpiryStopsTheChange := by
  intro s h hw
  generalize hu : { s with coord := { s.coord with state := .noChange, window := none } } = u
  have hexp : exec .changeWindowExpiry s = .next (forEach overrunAt u) := by
    rw [exec, execChangeWindowExpiry, whenRunning, if_pos h, windowExpires, if_pos hw, hu]
  have harb : (forEach overrunAt u).arb = s.arb := by
    refine forEach_keeps (P := fun t => t.arb = s.arb) (fun m t ht => (overrunAt_arb m t).trans ht) ?_
    rw [← hu]
  have hrec (n : Strand) (k : Kind) : strandRecord u n k (observed u n) = strandRecord s n k (observed s n) := by
    rw [← hu]
    rfl
  have hctx (n : Strand) : ctxOf u n = ctxOf s n := by rw [← hu]; rfl
  have hblock (n : Strand) : u.strands[n] = s.strands[n] := by rw [← hu]
  have part {n : Strand} {b : Block} (hb : ∀ t, SameRest u t → ctxOf t n = ctxOf s n → t.strands[n] = s.strands[n] →
      (overrunAt n t).strands[n] = b) : (forEach overrunAt u).strands[n] = b :=
    forEach_block overrunAt_only (Q := (· = b)) fun t hr ht =>
      hb t hr ((congrArg Block.ctx ht).trans (hctx n)) (ht.trans (hblock n))
  have shape (r : State) (hr : SameRest u r) (ha : r.arb = s.arb) : r = { s with
      strands := r.strands, alarm := r.alarm, coord := { s.coord with state := .noChange, window := none } } := by
    rw [hr, ha, ← hu]
  refine ⟨_, hexp, ?_, fun n => ⟨fun hn => ?_, fun hc hf => ?_⟩⟩
  · exact shape _ (forEach_rest overrunAt_only u) harb
  · refine part fun t hr hct ht => ?_
    have hcfg : t.cfg = s.cfg := by rw [hr, ← hu]
    rw [overrunAt_block (stopsAtOverrun_iff.2 (hct ▸ hn)), strandRecord_congr hr (ht.trans (hblock n).symm), hrec, hct, hcfg,
      ht]
    rfl
  · refine part fun t _ hct ht => ?_
    rw [overrunAt, if_neg, ht]
    rw [hct, stopsAtOverrun_iff]
    rintro (h | ⟨h, h'⟩)
    · exact hc h
    · exact hf h h'

end Leave

end Sys2Proof.Machine
end

section
/-! PROOF. The freeze of a dip, the outage of a ride-through expiry, HLD ALL and STP ALL, and one grant. -/

namespace Sys2Proof.Machine

open Sys2Proof

section All

variable {n : Strand} {s u : State}

/-- One strand's block after an event that reaches all strands, from what its own part leaves of the block it finds. -/
theorem forEach_part {f : Strand → State → State} (hf : ∀ m t, StrandOnly m t (f m t)) (hu : u.strands[n] = s.strands[n])
    {b : Block} (h : ∀ t, SameRest u t → t.strands[n] = s.strands[n] → (f n t).strands[n] = b) :
    (forEach f u).strands[n] = b :=
  forEach_block hf (Q := (· = b)) fun t hr ht => h t hr (ht.trans hu)

/-! ## The freeze -/

theorem freezeStrand_none (h : ∀ f, freezeState f ≠ (ctxOf s n).state) : freezeStrand n s = s := by
  unfold freezeStrand
  split
  · rename_i f hf
    exact absurd (freezeReturnOf_eq_some.1 hf) (h f)
  · rfl

theorem freezeStrand_arb (n : Strand) (s : State) : (freezeStrand n s).arb = { s.arb with
    queue := if waits (ctxOf s n) then s.arb.queue.filter (·.strand != n) else s.arb.queue
    holders := if holds (ctxOf s n) then s.arb.holders.filter (· != n) else s.arb.holders } := by
  by_cases h : ∃ f, freezeState f = (ctxOf s n).state
  · obtain ⟨f, h⟩ := h
    unfold freezeStrand
    rw [freezeReturnOf_eq_some.2 h]
    exact (leaveFor_arb n .frozen s).trans (arbAfter_tests (by decide) (by decide) n _)
  · have none := not_exists.1 h
    rw [freezeStrand_none none]
    exact arb_stays (fun e => none .waitPermit e.symm) (fun e => e.elim (fun e => none .ramp e.symm)
      fun e => none .held e.1.symm) n _

theorem freezeStrand_alarm (n : Strand) (s : State) : (freezeStrand n s).alarm = s.alarm := by
  unfold freezeStrand
  split
  · exact leaveFor_alarm n .frozen s
  · rfl

/-- A freeze takes the resume speed from RAMP, CAST and HELD (R72). -/
theorem freezeResume_of {c : Ctx} {f : FreezeReturn} (h : freezeState f = c.state) : freezeResume c
    = if f = .ramp ∨ f = .cast ∨ f = .held then some (c.resume.getD c.speed) else c.resume := by
  unfold freezeResume
  rw [takeResume_eq, ← h]
  cases f <;> rfl

/-- A low sample in NORMAL after another (R128, R129). -/
theorem exec_secondLow {v : Nat} (h : s.phase = .running) (hm : s.mon.state = .normal) (hl : 1 ≤ s.mon.low)
    (hv : min v 1500 < s.cfg.plant.vdip) :
    exec (.busVoltageSampling v) s = .next (enterDip (readVolts (min v 1500) s)) := by
  have hlow : (readVolts (min v 1500) s).mon.low = 2 := by
    show lowCount s.cfg.plant.vdip (min v 1500) s.mon.low = 2
    rw [lowCount, if_pos hv]
    omega
  have hstate : (readVolts (min v 1500) s).mon.state = .normal := hm
  rw [exec, execBusVoltageSampling, whenRunning, if_pos h, limitVolts, handleVolts, hstate]
  exact congrArg _ (if_pos hlow)

/-- Settles O35: each strand's part is the freeze of the block the event found there, and Laws 2 and 3 say that queue and
holders are then empty. -/
theorem dipFreezesTheStrands : Obligations.DipFreezesTheStrands := by
  intro v s h hp hq hm hl hv
  generalize hw : readVolts (min v 1500) s = w
  have hlow : lowCount s.cfg.plant.vdip (min v 1500) s.mon.low = 2 := by
    rw [lowCount, if_pos hv]
    omega
  generalize hu : raisePlant .supplyDip []
    { w with mon := { w.mon with state := .dip, ride := some (roundUp10 w.cfg.plant.tride) } } = u
  have hexec : exec (.busVoltageSampling v) s = .next (forEach freezeStrand u) := by
    rw [exec_secondLow h hm hl hv, hw, ← hu]
    rfl
  have hblock (n : Strand) : u.strands[n] = s.strands[n] := by
    rw [← hu, ← hw]
    rfl
  have harb : (forEach freezeStrand u).arb = { holders := [], queue := [], spacing := s.arb.spacing } := by
    rw [forEach_arb freezeStrand_only freezeStrand_arb, ← hu, ← hw]
    exact emptied_of_laws hp hq
  have shape (r : State) (hr : SameRest u r) (ha : r.arb = { holders := [], queue := [], spacing := s.arb.spacing })
      (hal : r.alarm = u.alarm) : r = { s with
        strands := r.strands
        arb := { holders := [], queue := [], spacing := s.arb.spacing }
        mon := { state := .dip, sample := min v 1500, low := 2, ride := some (roundUp10 s.cfg.plant.tride),
                 settle := if s.mon.settleAhead then s.mon.settle else s.mon.settle.map (· - 10)
                 settleCut := s.mon.settleCut && s.mon.settleAhead, settleAhead := false }
        alarm := s.alarm || alarmOf s.cfg .supplyDip
        plantLog := logRecord s.plantLog
          { kind := .supplyDip, time := s.store.time, monitor := .dip, change := s.coord.state,
            volts := min v 1500, mark := alarmOf s.cfg .supplyDip, affected := [] }
          .supplyDip (alarmOf s.cfg .supplyDip) } := by
    rw [hr, ha, hal, ← hu, ← hw, ← hlow]
    rfl
  refine ⟨_, hexec, shape _ (forEach_rest freezeStrand_only u) harb (forEach_alarm freezeStrand_alarm u),
    fun n => ⟨fun g hg => ?_, fun hn => ?_⟩⟩
  · refine forEach_part freezeStrand_only (hblock n) fun t _ ht => ?_
    have hc : ctxOf t n = ctxOf s n := congrArg Block.ctx ht
    rw [freezeStrand_block n t (hg.trans (congrArg Ctx.state hc.symm)), hc, ht, permitAfter_lawful hp (by decide) (by decide), freezeResume_of hg]
  · refine forEach_part freezeStrand_only (hblock n) fun t _ ht => ?_
    have hc : ctxOf t n = ctxOf s n := congrArg Block.ctx ht
    rw [freezeStrand_none, ht]
    intro f hf
    rw [hc] at hf
    obtain hn | hn | hn | hn := hn <;> cases f <;> cases hf.trans hn

/-! ## The outage -/

theorem outageAt_trips (h : (ctxOf s n).state = .frozen) :
    outageAt n s = enterTripped n (raise n .supplyLost s) := by
  rw [outageAt, if_pos h]
  refine if_neg ?_
  rw [ctxOf_raise, h]
  decide

theorem outageAt_arb (n : Strand) (s : State) : (outageAt n s).arb = s.arb := by
  by_cases h : (ctxOf s n).state = .frozen
  · rw [outageAt_trips h]
    exact leaveFor_arb_stays (by rw [ctxOf_raise]; exact .inr h)
  · rw [outageAt, if_neg h]

theorem outageAt_block (h : (ctxOf s n).state = .frozen) : (outageAt n s).strands[n] = { s.strands[n] with
    outSpeed := 0, outStopper := 0, outTrip := true
    log := logRecord s.strands[n].log (strandRecord s n .supplyLost (observed s n)) .supplyLost true
    ctx := toTripped (ctxOf s n) } := by
  have hblock : (raise n .supplyLost s).strands[n] = _ := raise_val n s .supplyLost
  rw [outageAt_trips h, enterTripped_block, ctxOf_raise, permitAfter_stays (.inr h), hblock]
  rfl

theorem raisePlant_block (k : Kind) (l : List Strand) (s : State) (n : Strand) :
    (raisePlant k l s).strands[n] = s.strands[n] := rfl

/-- Settles O38. -/
theorem rideThroughExpiryTripsTheFrozen : Obligations.RideThroughExpiryTripsTheFrozen := by
  intro s left h hride hm
  generalize hu : enterOutage s = u
  have hexec : exec .rideThroughExpiry s = .next (raisePlant .supplyLost (frozenStrands s) (forEach outageAt u)) := by
    rw [exec, execRideThroughExpiry, whenRunning, if_pos h, rideExpires, if_pos ⟨by simp [hride], hm⟩, hu]
  have hblock (n : Strand) : u.strands[n] = s.strands[n] := by
    rw [← hu]
    rfl
  have harb : (forEach outageAt u).arb = s.arb := by
    refine forEach_keeps (P := fun t => t.arb = s.arb) (fun m t ht => (outageAt_arb m t).trans ht) ?_
    rw [← hu]
    rfl
  have shape (r : State) (hr : SameRest u r) (ha : r.arb = s.arb) :
      raisePlant .supplyLost (frozenStrands s) r = { s with
        strands := (raisePlant .supplyLost (frozenStrands s) r).strands, alarm := true
        mon := { s.mon with state := .outage, ride := none, settle := some (roundUp10 s.cfg.plant.tsettle)
                            settleCut := s.mon.settle.isSome, settleAhead := decide (0 < left) }
        plantLog := logRecord s.plantLog
          { kind := .supplyLost, time := s.store.time, monitor := .outage, change := s.coord.state,
            volts := s.mon.sample, mark := true,
            affected := allStrands.filter fun n => (ctxOf s n).state = .frozen }
          .supplyLost true } := by
    have halarm : alarmOf r.cfg .supplyLost = true := rfl
    rw [raisePlant, halarm, hr, ha, ← hu, enterOutage, hride]
    simp [frozenStrands, settleStart]
  refine ⟨_, hexec, shape _ (forEach_rest outageAt_only u) harb, fun n => ⟨fun hn => ?_, fun hn => ?_⟩⟩
  · refine (raisePlant_block _ _ _ n).trans (forEach_part outageAt_only (hblock n) fun t hr ht => ?_)
    have hc : ctxOf t n = ctxOf s n := congrArg Block.ctx ht
    have hrec : strandRecord u n .supplyLost (observed u n) = strandRecord s n .supplyLost (observed s n) := by
      rw [← hu]
      rfl
    rw [outageAt_block (hc.symm ▸ hn), strandRecord_congr hr (ht.trans (hblock n).symm), hrec, hc, ht]
    rfl
  · refine (raisePlant_block _ _ _ n).trans (forEach_part outageAt_only (hblock n) fun t _ ht => ?_)
    have hc : ctxOf t n = ctxOf s n := congrArg Block.ctx ht
    rw [outageAt, if_neg (hc.symm ▸ hn), ht]

/-! ## HLD ALL and STP ALL -/

theorem answerUnless_block (broadcast : Bool) (reply : Reply) (s : State) (n : Strand) :
    (answerUnless broadcast reply s).strands[n] = s.strands[n] := by
  cases broadcast <;> rfl

/-- The reply to a verb that reached every strand, or none to a broadcast (R178), beside what the verb moved. -/
theorem answerUnless_eq {broadcast : Bool} {r : Request} {reply : Reply} {t : State} {a : Arbiter}
    (hr : SameRest { s with line := lineTaking r s.line } t) (ha : t.arb = a) (hal : t.alarm = s.alarm) :
    answerUnless broadcast reply t = { s with
      strands := (answerUnless broadcast reply t).strands
      line := if broadcast then lineTaking r s.line else (answered r reply s).line
      arb := a } := by
  subst ha
  cases broadcast
  · show answer reply t = { s with strands := t.strands, line := (answered r reply s).line, arb := t.arb }
    rw [answer, hr, hal, ← answer_taking]
    rfl
  · show t = { s with strands := t.strands, line := lineTaking r s.line, arb := t.arb }
    exact Eq.trans hr (by rw [hal])

theorem holdStrand_arb_tests (n : Strand) (s : State) : (holdStrand n s).arb = { s.arb with
    queue := if waits (ctxOf s n) then s.arb.queue.filter (·.strand != n) else s.arb.queue
    holders := if false then s.arb.holders.filter (· != n) else s.arb.holders } := by
  by_cases h : ∃ g, holdState g = (ctxOf s n).state
  · obtain ⟨g, h⟩ := h
    rw [holdStrand_arb n s h]
    cases g <;> simp [waits, ← h, holdState]
  · have none := not_exists.1 h
    have hw : (ctxOf s n).state ≠ .waitPermit := fun e => none .waitPermit e.symm
    rw [holdStrand_none n s none]
    simp [waits, hw]

theorem stopStrand_arb (n : Strand) (s : State) : (stopStrand n s).arb = { s.arb with
    queue := if waits (ctxOf s n) then s.arb.queue.filter (·.strand != n) else s.arb.queue
    holders := if holds (ctxOf s n) then s.arb.holders.filter (· != n) else s.arb.holders } := by
  unfold stopStrand
  split
  · exact (leaveFor_arb n .stopping s).trans (arbAfter_tests (by decide) (by decide) n _)
  · rename_i h
    have ⟨hw, hr⟩ : (ctxOf s n).state ≠ .waitPermit ∧ ¬ holdsRamp (ctxOf s n) := by
      constructor
      · intro e
        simp [mayStop, e] at h
      · rintro (e | ⟨e, -⟩) <;> simp [mayStop, e] at h
    exact arb_stays hw hr n _

theorem stopStrand_only (n : Strand) (s : State) : StrandOnly n s (stopStrand n s) := by
  unfold stopStrand
  split
  · exact enterStopping_only n s
  · exact .refl n s

theorem stopStrand_alarm (n : Strand) (s : State) : (stopStrand n s).alarm = s.alarm := by
  unfold stopStrand
  split
  · exact leaveFor_alarm n .stopping s
  · rfl

/-- Settles O53: HLD ALL and STP ALL are the verbs' parts at each strand in turn, and each part judges the block the
request found there. -/
theorem allVerbsTakeEveryStrand : Obligations.AllVerbsTakeEveryStrand := by
  intro broadcast s
  refine ⟨fun ht => ?_, fun ht => ?_⟩
  · generalize hu : { s with line := lineTaking (.hldAll broadcast) s.line } = u
    have hctx (n : Strand) : ctxOf u n = ctxOf s n := by rw [← hu]; rfl
    have hblock (n : Strand) : u.strands[n] = s.strands[n] := by rw [← hu]
    have listed : allStrands.filter (mayHold u) = allStrands.filter fun n => (ctxOf s n).state = .fill
        ∨ (ctxOf s n).state = .dwell ∨ (ctxOf s n).state = .waitPermit ∨ (ctxOf s n).state = .ramp := by
      refine List.filter_congr fun n _ => ?_
      rw [mayHold, hctx]
      cases (ctxOf s n).state <;> rfl
    have harb : (forEach holdStrand u).arb = { s.arb with
        queue := s.arb.queue.filter fun e => !decide ((ctxOf s e.strand).state = .waitPermit) } := by
      rw [forEach_arb (p := fun _ => false) holdStrand_only holdStrand_arb_tests, ← hu]
      simp [waits]
      rfl
    refine ⟨_, (request_served ht rfl).trans (congrArg _ (hldAllAt.eq_1 ..)), ?_, fun n => ⟨fun g hg => ?_, fun hn => ?_⟩⟩
    all_goals rw [hu]
    · rw [listed]
      refine answerUnless_eq ?_ harb ((forEach_alarm holdStrand_alarm u).trans (by rw [← hu]))
      rw [hu]
      exact forEach_rest holdStrand_only u
    · refine (answerUnless_block _ _ _ n).trans (forEach_part holdStrand_only (hblock n) fun t _ ht => ?_)
      have hc : ctxOf t n = ctxOf s n := congrArg Block.ctx ht
      rw [holdStrand_block n t (hg.trans (congrArg Ctx.state hc.symm)), hc, ht]
    · refine (answerUnless_block _ _ _ n).trans (forEach_part holdStrand_only (hblock n) fun t _ ht => ?_)
      have hc : ctxOf t n = ctxOf s n := congrArg Block.ctx ht
      rw [holdStrand_none n t, ht]
      intro g hg
      rw [hc] at hg
      simp only [← hg] at hn
      cases g <;> simp [holdState] at hn
  · generalize hu : { s with line := lineTaking (.stpAll broadcast) s.line } = u
    have hctx (n : Strand) : ctxOf u n = ctxOf s n := by rw [← hu]; rfl
    have hblock (n : Strand) : u.strands[n] = s.strands[n] := by rw [← hu]
    have listed : allStrands.filter (mayStop u) = allStrands.filter fun n => (ctxOf s n).state ≠ .idle
        ∧ (ctxOf s n).state ≠ .stopping ∧ (ctxOf s n).state ≠ .tripped := by
      refine List.filter_congr fun n _ => ?_
      rw [mayStop, hctx]
      cases (ctxOf s n).state <;> rfl
    have harb : (forEach stopStrand u).arb = { s.arb with
        queue := s.arb.queue.filter fun e => !decide ((ctxOf s e.strand).state = .waitPermit)
        holders := s.arb.holders.filter fun n => !decide (holdsRamp (ctxOf s n)) } := by
      rw [forEach_arb stopStrand_only stopStrand_arb, ← hu]
      rfl
    refine ⟨_, (request_served ht rfl).trans (congrArg _ (stpAllAt.eq_1 ..)), ?_, fun n => ⟨fun hn => ?_, fun hn => ?_⟩⟩
    all_goals rw [hu]
    · rw [listed]
      refine answerUnless_eq ?_ harb ((forEach_alarm stopStrand_alarm u).trans (by rw [← hu]))
      rw [hu]
      exact forEach_rest stopStrand_only u
    · refine (answerUnless_block _ _ _ n).trans (forEach_part stopStrand_only (hblock n) fun t _ ht => ?_)
      have hc : ctxOf t n = ctxOf s n := congrArg Block.ctx ht
      have hm : mayStop t n = true := mayStop_iff.2 (by rw [hc]; exact of_decide_eq_true hn)
      rw [stopStrand, if_pos hm, enterStopping_block, permitAfter_eq (by decide) (by decide), hc, ht]
      simp only [decide_eq_true_eq]
      rfl
    · refine (answerUnless_block _ _ _ n).trans (forEach_part stopStrand_only (hblock n) fun t _ ht => ?_)
      have hc : ctxOf t n = ctxOf s n := congrArg Block.ctx ht
      have hm : ¬ mayStop t n = true := fun e => of_decide_eq_false hn (by rw [← hc]; exact mayStop_iff.1 e)
      rw [stopStrand, if_neg hm, ht]

end All

end Sys2Proof.Machine
end

section
/-! SUPPORT. A state with one strand's part put into it: the block of that strand, the arbiter and ALARM, which is all a
strand's own operations can touch. Each operation on such a state is an equation on the part. -/

namespace Sys2Proof.Machine

open Sys2Proof

/-- `s` with the block `b` at strand `n`, the arbiter `a` and ALARM at `al`. -/
def withPart (n : Strand) (b : Block) (a : Arbiter) (al : Bool) (s : State) : State :=
  { s with strands := s.strands.set n b, arb := a, alarm := al }

section Part

variable {n m : Strand} {b : Block} {a : Arbiter} {al : Bool} {s t : State}

theorem withPart_block : (withPart n b a al s).strands[n] = b := by simp [withPart]

@[simp] theorem withPart_val : (withPart n b a al s).strands[n.val] = b := by simp [withPart]

theorem withPart_other (h : m ≠ n) : (withPart n b a al s).strands[m] = s.strands[m] := by
  have hv : n.val ≠ m.val := fun e => h (Fin.ext e.symm)
  simp [withPart, hv]

@[simp] theorem ctxOf_withPart : ctxOf (withPart n b a al s) n = b.ctx := by simp [ctxOf]
@[simp] theorem withPart_arb : (withPart n b a al s).arb = a := rfl
@[simp] theorem withPart_alarm : (withPart n b a al s).alarm = al := rfl
@[simp] theorem withPart_cfg : (withPart n b a al s).cfg = s.cfg := rfl
@[simp] theorem withPart_store : (withPart n b a al s).store = s.store := rfl
@[simp] theorem withPart_plans : (withPart n b a al s).plans = s.plans := rfl

/-- A next state that stays with its strand is the old one with that strand's part put into it. -/
theorem StrandOnly.eq_withPart (h : StrandOnly n s t) : t = withPart n t.strands[n] t.arb t.alarm s :=
  h.eq_set rfl rfl rfl

theorem withPart_self (n : Strand) (s : State) : withPart n s.strands[n] s.arb s.alarm s = s :=
  (StrandOnly.refl n s).eq_withPart.symm

theorem withPart_withPart {b' : Block} {a' : Arbiter} {al' : Bool} :
    withPart n b' a' al' (withPart n b a al s) = withPart n b' a' al' s := by simp [withPart]

theorem StrandOnly.withPart_eq (h : StrandOnly n (withPart n b a al s) t) {b' : Block} {a' : Arbiter} {al' : Bool}
    (hb : t.strands[n] = b') (ha : t.arb = a') (hal : t.alarm = al') : t = withPart n b' a' al' s :=
  (h.eq_set hb ha hal).trans withPart_withPart

/-! ## The operations on a part -/

theorem mapBlock_withPart (f : Block → Block) : mapBlock n f (withPart n b a al s) = withPart n (f b) a al s :=
  (mapBlock_only n _ f).withPart_eq ((mapBlock_same n f _).trans (congrArg f withPart_block)) rfl rfl

theorem mapCtx_withPart (g : Ctx → Ctx) :
    mapCtx n g (withPart n b a al s) = withPart n { b with ctx := g b.ctx } a al s := mapBlock_withPart _

/-- The record of kind `k` a strand makes from its block `b` at the moment `time` (R156). -/
def blockRecord (c : Cfg) (time : Nat) (seen : Nat × Option Nat) (b : Block) (k : Kind) : StrandRec :=
  { kind := k, time := time, state := b.ctx.state, restart := b.ctx.kind, plan := b.ctx.plan
    slot := b.ctx.slot.map SlotRun.index, speedOut := speedOut b.ctx.speed, measured := seen.1, level := seen.2
    stopper := b.ctx.stopper, mark := alarmOf c k }

/-- The block once a record of its strand has entered the log. -/
def recordIn (c : Cfg) (time : Nat) (seen : Nat × Option Nat) (k : Kind) (b : Block) : Block :=
  { b with log := logRecord b.log (blockRecord c time seen b k) k (alarmOf c k) }

theorem raise_withPart {seen : Nat × Option Nat} (h : observed (withPart n b a al s) n = seen) (k : Kind) :
    raise n k (withPart n b a al s)
      = withPart n (recordIn s.cfg s.store.time seen k b) a (al || alarmOf s.cfg k) s := by
  refine (raise_only n _ k).withPart_eq ?_ rfl rfl
  refine (raise_val n _ k).trans ?_
  rw [h, strandRecord, ctxOf_withPart, withPart_val]
  rfl

theorem observed_withPart {seen : Nat × Option Nat} (h : b.sampled = some seen) :
    observed (withPart n b a al s) n = seen := by
  rw [observed, withPart_block, h]

theorem leaveFor_withPart (next : StrandState) : leaveFor n next (withPart n b a al s)
    = withPart n { b with ctx := { b.ctx with permit := permitAfter b.ctx next } } (arbAfter n b.ctx next a) al s := by
  refine (leaveFor_only n _ next).withPart_eq ?_ ?_ (leaveFor_alarm n next _)
  · rw [leaveFor_block, ctxOf_withPart, withPart_block]
  · rw [leaveFor_arb, ctxOf_withPart, withPart_arb]

/-- The block of a strand tripped from `b` (R2, R29). -/
def trippedBlock (b : Block) : Block :=
  { b with
    ctx := { toTripped b.ctx with permit := permitAfter b.ctx .tripped }
    outSpeed := 0, outStopper := 0, outTrip := true }

theorem enterTripped_withPart : enterTripped n (withPart n b a al s)
    = withPart n (trippedBlock b) (arbAfter n b.ctx .tripped a) al s := by
  rw [enterTripped, leaveFor_withPart, mapBlock_withPart]
  rfl

theorem holdStrand_withPart {g : HoldReturn} (h : holdState g = b.ctx.state) : holdStrand n (withPart n b a al s)
    = withPart n { b with ctx := { b.ctx with state := .held, holdReturn := some g, lag := 0 } }
        (if g = .waitPermit then { a with queue := a.queue.filter (·.strand != n) } else a) al s := by
  have h' : holdState g = (ctxOf (withPart n b a al s) n).state := by rw [ctxOf_withPart, h]
  refine (holdStrand_only n _).withPart_eq ?_ (holdStrand_arb n _ h') (holdStrand_alarm n _)
  rw [holdStrand_block n _ h', ctxOf_withPart, withPart_block]

theorem enqueue_withPart : enqueue n (withPart n b a al s) = withPart n b { a with
    queue := place { strand := n, cls := classOf b.ctx.kind, time := s.store.time } a.queue } al s := by
  rw [enqueue, ctxOf_withPart]
  rfl

/-! ## Plans seen from a part -/

theorem refOf_withPart {r : PlanRef} (h : b.ctx.plan = some r) : refOf (withPart n b a al s) n = r :=
  refOf_eq (by rw [ctxOf_withPart, h])

theorem lnormOf_withPart : lnormOf (withPart n b a al s) n = b.force.lnorm := by rw [lnormOf, withPart_block]

theorem planSlot_withPart_plan {p : PlanNo} {rev i : Nat} {y : Slot} (h : s.plans[p].slots[i - 1]? = some (some y)) :
    planSlot (withPart n b a al s) n (.plan p rev) i = y := slotOf_eq h

theorem planSlot_withPart_fallback {i : Nat} : planSlot (withPart n b a al s) n .fallback i
    = { target := .resume, duration := 300, level := b.force.lnorm, step := .auto } := by
  rw [planSlot, lnormOf_withPart]

theorem headerOf_eq {p : PlanNo} {h : Header} (hh : s.plans[p].header = some h) : headerOf s p = h := by
  rw [headerOf, hh]
  rfl

end Part

end Sys2Proof.Machine
end

section
/-! PROOF. One grant: slot 1 of the head of the queue started, and the action of a SPEED_LIMIT. -/

namespace Sys2Proof.Machine

open Sys2Proof

section Grant

variable {n : Strand} {b : Block} {a : Arbiter} {al : Bool} {s : State}

theorem observed_withPart_sampled (h : b.sampled = s.strands[n].sampled) :
    observed (withPart n b a al s) n = observed s n := by
  rw [observed, withPart_block, h]
  rfl

/-! ## A slot started on a part -/

/-- The uncapped target of slot `y` as the strand of `b` takes it (R58). -/
abbrev soughtBy (b : Block) (y : Slot) : Nat := resolveTarget b.ctx y.target

/-- The block once slot `i`, which is `y`, has started in it (R58, R59, R82). -/
def slotStarted (i : Nat) (y : Slot) (b : Block) : Block :=
  { b with ctx := { b.ctx with
      slot := some { index := i, k := 0, s0 := b.ctx.speed, n := 2 * y.duration, step := y.step }
      target := some (min (soughtBy b y) (b.force.vmax * 16)), levelTarget := y.level
      rateNoted := false, limitNoted := decide (soughtBy b y > b.force.vmax * 16) } }

theorem startSlot_withPart {i : Nat} {y : Slot} {as : List Action} {seen : Nat × Option Nat}
    (hy : planSlot (withPart n b a al s) n (refOf (withPart n b a al s) n) i = y)
    (hs : observed (withPart n (slotStarted i y b) a al s) n = seen) :
    startSlot n i { st := withPart n b a al s, actions := as }
      = if soughtBy b y > b.force.vmax * 16 then
          { st := withPart n (recordIn s.cfg s.store.time seen .speedLimit (slotStarted i y b)) a
              (al || alarmOf s.cfg .speedLimit) s
            actions := as ++ [actionOf s.cfg .speedLimit] }
        else { st := withPart n (slotStarted i y b) a al s, actions := as } := by
  have hcap : capOf (withPart n b a al s) n = b.force.vmax * 16 := by rw [capOf, withPart_block]
  rw [← raise_withPart hs]
  simp only [startSlot, hy, hcap, ctxOf_withPart, mapCtx_withPart, rampDeviation, decide_eq_true_eq]
  rfl

/-! ## Actions on a part -/

/-- The block of a strand held from RAMP (R21). -/
def heldRamp (b : Block) : Block :=
  { b with ctx := { b.ctx with state := .held, holdReturn := some .ramp, lag := 0 } }

theorem applyAction_hold_ramp (h : b.ctx.state = .ramp) :
    applyAction n .hold (withPart n b a al s) = withPart n (heldRamp b) a al s :=
  holdStrand_withPart (g := .ramp) h.symm

theorem applyAction_trip_part (hi : b.ctx.state ≠ .idle) (ht : b.ctx.state ≠ .tripped) :
    applyAction n .trip (withPart n b a al s) = withPart n (trippedBlock b) (arbAfter n b.ctx .tripped a) al s := by
  rw [← enterTripped_withPart]
  refine if_neg ?_
  rw [ctxOf_withPart]
  exact fun e => e.elim hi ht

theorem arbAfter_ramp_tripped {c : Ctx} (h : c.state = .ramp) :
    arbAfter n c .tripped a = { a with holders := a.holders.filter (· != n) } := by
  simp [arbAfter, leavesQueue, givesBack, h]

theorem trippedBlock_ramp (h : b.ctx.state = .ramp) : trippedBlock b = { b with
    ctx := { toTripped b.ctx with permit := false }, outSpeed := 0, outStopper := 0, outTrip := true } := by
  have hp : permitAfter b.ctx .tripped = false := if_pos (.inl ⟨h, by decide⟩)
  rw [trippedBlock, hp]

/-! ## The grant -/

theorem addHolder_filter (n : Strand) (l : List Strand) : (addHolder n l).filter (· != n) = l.filter (· != n) := by
  induction l with
  | nil => simp [addHolder]
  | cons m ms ih =>
    unfold addHolder
    split
    · simp
    · split
      · rfl
      · simp [List.filter_cons, ih]

/-- The arbiter after its part of a grant (R100, R102). -/
abbrev grantedArb (n : Strand) (rest : List QEntry) (s : State) : Arbiter := (arbiterGrant n rest s).arb

/-- The block of a granted strand as slot 1 is about to start (R17). -/
def grantedBlock (b : Block) : Block := { b with ctx := { b.ctx with state := .ramp, permit := true } }

theorem grantHead_granted {e : QEntry} {rest : List QEntry} (hq : s.arb.queue = e :: rest)
    (hw : (ctxOf s e.strand).state = .waitPermit) :
    let t := withPart e.strand (grantedBlock s.strands[e.strand]) (grantedArb e.strand rest s) s.alarm s
    let x := startSlot e.strand 1 { st := t, actions := [] }
    grantHead s = applyActions e.strand x.actions x.st := by
  have hpart : arbiterGrant e.strand rest s
      = withPart e.strand s.strands[e.strand] (grantedArb e.strand rest s) s.alarm s :=
    (withPart_self e.strand (arbiterGrant e.strand rest s)).symm
  have hstate : (ctxOf (arbiterGrant e.strand rest s) e.strand).state = .waitPermit := hw
  rw [grantHead_eq hq, strandGrant, if_pos hstate, hpart, mapCtx_withPart]
  rfl

/-- With the four conditions met an evaluation is one grant and the evaluation after it (R101). -/
theorem evaluateGrants_granted (h : canGrant s = true) {e : QEntry} {rest : List QEntry} (hq : s.arb.queue = e :: rest)
    (hu : (grantHead s).arb.queue = rest) : evaluateGrants s = evaluateGrants (grantHead s) := by
  rw [evaluateGrants, hq, List.length_cons, grantWhile, if_pos h, evaluateGrants, hu]

/-- Settles O28: the grant by whether the cap lowers the target and by the action steered for SPEED_LIMIT. -/
theorem grantStartsTheHeadOfTheQueue : Obligations.GrantStartsTheHeadOfTheQueue := by
  intro s e rest y h hm hp hsp hq hw b c hplan cap raw steered started entered
  have hcan : canGrant s = true := (canGrant_iff s).2 ⟨hm, hp, hsp, by simp [hq]⟩
  obtain ⟨hs', u, hu, hblock⟩ : ∃ (hs : List Strand) (u : Block),
      grantHead s = withPart e.strand u { grantedArb e.strand rest s with holders := hs }
        (s.alarm || (decide (cap < raw) && alarmOf s.cfg .speedLimit)) s
      ∧ (¬ steered .trip → hs = addHolder e.strand s.arb.holders)
      ∧ (raw ≤ cap → u = { b with ctx := started })
      ∧ (steered .note → u = { b with ctx := started, log := entered })
      ∧ (steered .hold → u = { b with
          ctx := { started with state := .held, holdReturn := some .ramp, lag := 0 }, log := entered })
      ∧ (steered .trip → hs = s.arb.holders.filter (· != e.strand)
          ∧ u = { b with
              outSpeed := 0, outStopper := 0, outTrip := true, log := entered
              ctx := { started with
                state := .tripped, permit := false, speed := 0, stopper := 0, mode := .off, integrator := 0
                kind := none, plan := none, slot := none, target := none, holdReturn := none
                freezeReturn := none, resume := none, lag := 0, timeoutNoted := false, floorReached := false
                rateNoted := false, limitNoted := false } }) := by
    have hy : planSlot (withPart e.strand (grantedBlock b) (grantedArb e.strand rest s) s.alarm s) e.strand
        (refOf (withPart e.strand (grantedBlock b) (grantedArb e.strand rest s) s.alarm s) e.strand) 1 = y := by
      obtain ⟨p, rev, hp, hy⟩ | ⟨hp, rfl⟩ := hplan
      · rw [refOf_withPart (b := grantedBlock b) (r := .plan p rev) hp, planSlot_withPart_plan (by simpa using hy)]
      · rw [refOf_withPart (b := grantedBlock b) (r := .fallback) hp, planSlot_withPart_fallback]
        rfl
    have hseen : observed (withPart e.strand (slotStarted 1 y (grantedBlock b)) (grantedArb e.strand rest s) s.alarm s)
        e.strand = observed s e.strand := observed_withPart_sampled rfl
    have hstate : (slotStarted 1 y (grantedBlock b)).ctx.state = .ramp := rfl
    rw [grantHead_granted hq hw, startSlot_withPart hy hseen]
    by_cases hc : cap < raw
    · rw [if_pos (show soughtBy (grantedBlock b) y > (grantedBlock b).force.vmax * 16 from hc), decide_eq_true hc,
        Bool.true_and]
      have steers (act : Action) : steered act ↔ actionOf s.cfg .speedLimit = act := and_iff_right hc
      simp only [steers, not_le.2 hc, false_imp_iff, true_and]
      generalize hact : actionOf s.cfg .speedLimit = act
      cases act with
      | stop => exact absurd hact (actionOf_ne_stop (by decide))
      | note => exact ⟨_, _, rfl, fun _ => rfl, fun _ => rfl, by simp, by simp⟩
      | hold => exact ⟨_, _, applyAction_hold_ramp hstate, fun _ => rfl, by simp, fun _ => rfl, by simp⟩
      | trip =>
        have hfilter : arbAfter e.strand (slotStarted 1 y (grantedBlock b)).ctx .tripped (grantedArb e.strand rest s)
            = { grantedArb e.strand rest s with holders := s.arb.holders.filter (· != e.strand) } := by
          rw [arbAfter_ramp_tripped hstate]
          exact congrArg (fun l => { grantedArb e.strand rest s with holders := l }) (addHolder_filter _ _)
        refine ⟨_, _, (applyAction_trip_part (b := recordIn _ _ _ _ (slotStarted 1 y (grantedBlock b))) ?_ ?_).trans
          (congrArg (withPart _ _ · _ _) hfilter), by simp, by simp, by simp, fun _ => ⟨rfl, ?_⟩⟩
        · exact fun h => by cases h
        · exact fun h => by cases h
        · exact trippedBlock_ramp hstate
    · rw [if_neg (show ¬ soughtBy (grantedBlock b) y > (grantedBlock b).force.vmax * 16 from hc), decide_eq_false hc,
        Bool.false_and, Bool.or_false]
      have steers (act : Action) : ¬ steered act := fun h => hc h.1
      simp only [steers, false_imp_iff, and_true]
      exact ⟨_, _, rfl, fun _ => rfl, fun _ => rfl⟩
  have hexec : exec .grantEvaluation s = .next (evaluateGrants (grantHead s)) := by
    have hrest : (grantHead s).arb.queue = rest := by rw [hu]; rfl
    rw [exec, execGrantEvaluation, whenRunning, if_pos h, evaluateGrants_granted hcan hq hrest]
  have hspacing : (grantHead s).arb.spacing = if 0 < s.cfg.plant.gap then some (s.cfg.plant.gap * 100) else none := by
    rw [hu]
    show (if 0 < s.cfg.plant.gap then some (s.cfg.plant.gap * 100) else s.arb.spacing) = _
    rw [hsp]
  refine ⟨grantHead s, fun hg => ?_, fun hg => ?_, ?_, fun m hmn => ?_, ?_⟩
  · rw [hexec, evaluateGrants_none]
    refine Bool.eq_false_iff.2 fun hc => ?_
    have := ((canGrant_iff _).1 hc).2.2.1
    rw [hspacing, if_pos hg] at this
    cases this
  · rw [hexec]
    have hrun : (grantHead s).phase = .running := by rw [hu]; exact h
    rw [exec, execGrantEvaluation, whenRunning, if_pos hrun]
  · rw [← hspacing, hu]
    rfl
  · rw [hu, withPart_other hmn]
  · rw [hu]
    simpa using hblock

end Grant

end Sys2Proof.Machine
end

section
/-! SUPPORT. A control period on a sample stage 2 finds nothing on: what the stages leave of the strand's part. -/

namespace Sys2Proof.Machine

open Sys2Proof

section Sound

variable {n : Strand} {b : Block} {a : Arbiter} {al : Bool} {s : State} {r : Reading} {l : Nat}

/-! ## Stage 2 -/

/-- The block with a condition out of the active-condition set. -/
def without (k : Cond) (b : Block) : Block := { b with active := setActive b.active false k }

theorem unlessCut_going (f : State → Period) (s : State) : unlessCut f { st := s, cut := false } = f s := rfl

theorem checkCond_absent {k : Cond} : checkCond n k .absent (withPart n b a al s)
    = { st := withPart n (without k b) a al s, cut := false } :=
  congrArg (Period.mk · false) (mapBlock_withPart _)

theorem levelFinding_some {checked : Bool} {test : Nat → Bool} :
    levelFinding checked test (some l) = found (checked && test l) := by
  cases checked <;> rfl

theorem found_eq_absent {c : Bool} (h : c = false) : found c = .absent := congrArg found h

theorem checkBreakout_none (h : (isWatched b.ctx.state && r.breakout) = false) :
    checkBreakout n r (withPart n b a al s) = { st := withPart n (without .breakout b) a al s, cut := false } := by
  rw [checkBreakout, ctxOf_withPart, found_eq_absent h, checkCond_absent]

theorem checkInterlock_none (h : (isInterlocked b.ctx.state && !r.ready) = false) :
    checkInterlock n r (withPart n b a al s) = { st := withPart n (without .interlockLost b) a al s, cut := false } := by
  rw [checkInterlock, ctxOf_withPart, found_eq_absent h, checkCond_absent]

theorem checkGauge_none (h : (isWatched b.ctx.state && r.level.isNone) = false) :
    checkGauge n r (withPart n b a al s) = { st := withPart n (without .gaugeFault b) a al s, cut := false } := by
  rw [checkGauge, ctxOf_withPart, found_eq_absent h, checkCond_absent]

theorem checkLevelHigh_none
    (h : levelFinding (isWatched b.ctx.state) (fun l => b.force.lhigh ≤ l) r.level = .absent) :
    checkLevelHigh n r (withPart n b a al s) = { st := withPart n (without .levelHigh b) a al s, cut := false } := by
  rw [checkLevelHigh, ctxOf_withPart, withPart_block, h, checkCond_absent]

theorem checkSuspect_none {prior : List Nat}
    (h : ∀ l, r.level = some l → ¬ (b.ctx.mode = .closed ∧ suddenFall prior b.force.drop l = true)) :
    checkSuspect n r prior (withPart n b a al s) = { st := withPart n b a al s, cut := false } := by
  rw [checkSuspect, ctxOf_withPart, withPart_block]
  split
  · rename_i l hl
    exact if_neg (by simpa using h l hl)
  · rfl

theorem checkLevelLow_none
    (h : levelFinding (isMoving b.ctx.state) (fun l => l < b.force.llow) r.level = .absent) :
    checkLevelLow n r (withPart n b a al s) = { st := withPart n (without .levelLow b) a al s, cut := false } := by
  rw [checkLevelLow, ctxOf_withPart, withPart_block, h, checkCond_absent]

/-- A sample that does not lag empties the lag count (R152). -/
theorem checkLag_none
    (h : (isMoving b.ctx.state && decide (b.force.lagtol < speedGap b.outSpeed r.measured)) = false) :
    checkLag n r (withPart n b a al s)
      = { st := withPart n (without .driveLag { b with ctx := { b.ctx with lag := 0 } }) a al s, cut := false } := by
  have hlag : lagging (withPart n b a al s) n r = false := by rw [lagging, ctxOf_withPart, withPart_block, h]
  rw [checkLag, hlag, mapCtx_withPart]
  exact checkCond_absent

/-- The seven checks of a part all find their condition absent (R89, R149). -/
theorem checks_none {prior : List Nat}
    (hbreakout : (isWatched b.ctx.state && r.breakout) = false)
    (hinterlock : (isInterlocked b.ctx.state && !r.ready) = false)
    (hgauge : (isWatched b.ctx.state && r.level.isNone) = false)
    (hhigh : levelFinding (isWatched b.ctx.state) (fun l => b.force.lhigh ≤ l) r.level = .absent)
    (hsuspect : ∀ l, r.level = some l → ¬ (b.ctx.mode = .closed ∧ suddenFall prior b.force.drop l = true))
    (hlow : levelFinding (isMoving b.ctx.state) (fun l => l < b.force.llow) r.level = .absent)
    (hlag : (isMoving b.ctx.state && decide (b.force.lagtol < speedGap b.outSpeed r.measured)) = false) :
    checks n r prior (withPart n b a al s)
      = { st := withPart n { b with active := ActiveSet.empty, ctx := { b.ctx with lag := 0 } } a al s, cut := false } := by
  rw [checks, checkBreakout_none hbreakout, unlessCut_going,
    checkInterlock_none (b := without .breakout b) hinterlock, unlessCut_going,
    checkGauge_none (b := without .interlockLost (without .breakout b)) hgauge, unlessCut_going,
    checkLevelHigh_none (b := without .gaugeFault (without .interlockLost (without .breakout b))) hhigh, unlessCut_going,
    checkSuspect_none (b := without .levelHigh (without .gaugeFault (without .interlockLost (without .breakout b))))
      hsuspect, unlessCut_going,
    checkLevelLow_none (b := without .levelHigh (without .gaugeFault (without .interlockLost (without .breakout b))))
      hlow, unlessCut_going,
    checkLag_none (b := without .levelLow (without .levelHigh (without .gaugeFault (without .interlockLost
      (without .breakout b))))) hlag]
  rfl

/-! ## The period up to stage 3 -/

/-- The context once a sample with the valid level `l` has been taken and stage 2 has found nothing. -/
def soundCtx (g : StrandCfg) (l : Nat) (c : Ctx) : Ctx :=
  { c with
    history := pushHistory c.history l
    extremes := if c.state = .idle then c.extremes else some (stretch l c.extremes)
    mode := if c.mode = .holdLast then .closed else c.mode
    levelTarget := if followsNorm c then g.lnorm else c.levelTarget
    lag := 0 }

/-- The block at that moment. -/
def soundBlock (g : StrandCfg) (measured l : Nat) (b : Block) : Block :=
  { b with
    force := g
    sampled := some (measured, some l)
    refilled := refillCount (some l) b
    active := ActiveSet.empty
    ctx := soundCtx g l b.ctx }

theorem openedBlock_sound {g : StrandCfg} (hl : r.level = some l) :
    ({ openedBlock g r b with active := ActiveSet.empty, ctx := { (openedBlock g r b).ctx with lag := 0 } } : Block)
      = soundBlock g r.measured l b := by
  rw [openedBlock, hl]
  by_cases h : followsNorm b.ctx = true
  · rw [if_pos h, soundBlock, soundCtx, if_pos h]
    rfl
  · rw [if_neg h, soundBlock, soundCtx, if_neg h]
    rfl

theorem openPeriod_part (n : Strand) (r : Reading) (s : State) :
    openPeriod n r s = withPart n (openedBlock s.cfg.strands[n] r s.strands[n]) s.arb s.alarm s := rfl

/-- A valid sample that is read (R1). -/
theorem readSample_valid {x : Sample} (h : validSample x l) : (readSample x).level = some l := by
  obtain ⟨-, hg, hl, hle⟩ := h
  have hv : validLevel x = if x.gaugeValid ∧ 0 ≤ x.level ∧ x.level ≤ 1500 then some x.level.toNat else none := rfl
  show validLevel x = some l
  rw [hv, if_pos ⟨hg, by omega, by omega⟩, hl]
  rfl

theorem suddenFall_suspectHistory {drop : Nat} :
    suddenFall (suspectHistory b) drop l = true ↔ 4 ≤ b.refilled ∧ b.ctx.history.length = 4
      ∧ l + drop < b.ctx.history.headD 0 := by
  by_cases h : 4 ≤ b.refilled
  · rw [suspectHistory_full h]
    unfold suddenFall
    split
    · rename_i e
      simp [h, e]
    · rename_i hne
      simp only [h, true_and, Bool.false_eq_true, false_iff]
      rintro ⟨hlen, -⟩
      match hh : b.ctx.history, hlen with
      | [p, q, u, v], _ => exact hne p q u v hh
  · rw [suspectHistory_short (Nat.lt_of_not_le h)]
    simp [suddenFall, h]

/-- A loop that is CLOSED with the sample taken was not OFF (R75). -/
theorem openedBlock_mode {g : StrandCfg} (hl : r.level = some l) :
    (openedBlock g r b).ctx.mode = .closed ↔ b.ctx.mode ≠ .off := by
  have hm : (openedBlock g r b).ctx.mode = if b.ctx.mode = .holdLast then .closed else b.ctx.mode := by
    rw [openedBlock, hl]
    by_cases h : followsNorm b.ctx = true
    · rw [if_pos h]
      rfl
    · rw [if_neg h]
      rfl
  rw [hm]
  cases b.ctx.mode <;> decide

/-- Stage 2 on a sample it finds nothing on. -/
theorem checks_sound {x : Sample} (h : soundSample s n x l) :
    checks n (readSample x) (suspectHistory s.strands[n]) (openPeriod n (readSample x) s)
      = { st := withPart n (soundBlock s.cfg.strands[n] (min x.measured 8000) l s.strands[n]) s.arb s.alarm s
          cut := false } := by
  obtain ⟨hv, hinterlock, hhigh, hsuspect, hlow, hlag⟩ := h
  have hl := readSample_valid hv
  have hst : (openedBlock s.cfg.strands[n] (readSample x) s.strands[n]).ctx.state = (ctxOf s n).state :=
    openedBlock_state _ _ _
  have absent {checked test : Bool} (h : ¬ (checked = true ∧ test = true)) : found (checked && test) = .absent :=
    found_eq_absent (Bool.eq_false_iff.2 (by simpa using h))
  rw [openPeriod_part, checks_none]
  · rw [openedBlock_sound hl]
    rfl
  · have hb : (readSample x).breakout = false := hv.1
    rw [hb, Bool.and_false]
  · refine Bool.eq_false_iff.2 fun e => ?_
    obtain ⟨hc, ht⟩ := (Bool.and_eq_true _ _).mp e
    obtain ⟨hi, hf, hs, ht'⟩ := isInterlocked_iff.1 (hst ▸ hc)
    exact hinterlock ⟨by simpa [readSample] using ht, hi, hf, hs, ht'⟩
  · rw [hl]
    exact Bool.and_false _
  · rw [hl, levelFinding_some]
    refine absent fun ⟨hc, ht⟩ => ?_
    obtain ⟨hi, ht'⟩ := isWatched_iff.1 (hst ▸ hc)
    exact hhigh ⟨of_decide_eq_true ht, hi, ht'⟩
  · intro l' hl' ⟨hc, ht⟩
    obtain rfl : l = l' := Option.some.inj (hl.symm.trans hl')
    obtain ⟨hr, hlen, hfall⟩ := suddenFall_suspectHistory.1 ht
    exact hsuspect ⟨(openedBlock_mode hl).1 hc, hr, hlen, hfall⟩
  · rw [hl, levelFinding_some]
    exact absent fun ⟨hc, ht⟩ => hlow ⟨isMoving_iff.1 (hst ▸ hc), of_decide_eq_true ht⟩
  · refine Bool.eq_false_iff.2 fun e => ?_
    obtain ⟨hc, ht⟩ := (Bool.and_eq_true _ _).mp e
    have hgap : s.cfg.strands[n].lagtol < speedGap s.strands[n].outSpeed (min x.measured 8000) := of_decide_eq_true ht
    refine hlag ⟨isMoving_iff.1 (hst ▸ hc), ?_⟩
    unfold speedGap at hgap
    omega

/-! ## Stages 4 to 7 -/

/-- The stages after stage 3, skipped where a TRIP has cut the period short (R9). -/
def laterStages (n : Strand) (r : Reading) (p : Period) : State :=
  (unlessCut (quiet (closePeriod n r)) (unlessCut (rampAndActions n) p)).st

theorem periodOn_sound {x : Sample} (h : soundSample s n x l) : periodOn n (readSample x) s
    = laterStages n (readSample x) (timedStage n (readSample x)
        (withPart n (soundBlock s.cfg.strands[n] (min x.measured 8000) l s.strands[n]) s.arb s.alarm s)) := by
  rw [periodOn, checks_sound h]
  rfl

/-- The block of a strand on a sample stage 2 finds nothing on, as stage 3 finds it. -/
structure SoundPart (s : State) (n : Strand) (x : Sample) (l : Nat) (b : Block) : Prop where
  force   : b.force = s.cfg.strands[n]
  log     : b.log = s.strands[n].log
  sampled : b.sampled = some (min x.measured 8000, validLevel x)
  ctx     : b.ctx = soundCtx s.cfg.strands[n] l (ctxOf s n)

/-- A control period on a sample stage 2 finds nothing on. -/
theorem exec_sound {x : Sample} (hrun : s.phase = .running) (h : soundSample s n x l) : ∃ b, SoundPart s n x l b
    ∧ exec (.controlPeriod n x) s = .next (laterStages n (readSample x)
        (timedStage n (readSample x) (withPart n b s.arb s.alarm s))) := by
  refine ⟨soundBlock s.cfg.strands[n] (min x.measured 8000) l s.strands[n], ⟨rfl, rfl, ?_, rfl⟩, ?_⟩
  · exact congrArg (fun v => some (min x.measured 8000, v)) (readSample_valid h.1).symm
  · rw [exec, execControlPeriod, whenRunning, if_pos hrun, periodOn_sound h]

section SoundPart

variable {x : Sample}

theorem SoundPart.state (h : SoundPart s n x l b) : b.ctx.state = (ctxOf s n).state := by rw [h.ctx]; rfl
theorem SoundPart.plan (h : SoundPart s n x l b) : b.ctx.plan = (ctxOf s n).plan := by rw [h.ctx]; rfl
theorem SoundPart.kind (h : SoundPart s n x l b) : b.ctx.kind = (ctxOf s n).kind := by rw [h.ctx]; rfl
theorem SoundPart.slot (h : SoundPart s n x l b) : b.ctx.slot = (ctxOf s n).slot := by rw [h.ctx]; rfl
theorem SoundPart.target (h : SoundPart s n x l b) : b.ctx.target = (ctxOf s n).target := by rw [h.ctx]; rfl
theorem SoundPart.speed (h : SoundPart s n x l b) : b.ctx.speed = (ctxOf s n).speed := by rw [h.ctx]; rfl
theorem SoundPart.resume (h : SoundPart s n x l b) : b.ctx.resume = (ctxOf s n).resume := by rw [h.ctx]; rfl
theorem SoundPart.timer (h : SoundPart s n x l b) : b.ctx.timer = (ctxOf s n).timer := by rw [h.ctx]; rfl

theorem SoundPart.timeoutNoted (h : SoundPart s n x l b) : b.ctx.timeoutNoted = (ctxOf s n).timeoutNoted := by
  rw [h.ctx]
  rfl

end SoundPart

/-- The block as stages 6 and 7 leave it (R2, R32, R86). -/
def closedBlock (r : Reading) (b : Block) : Block :=
  { b with
    ctx := loopStep b.force r b.ctx
    outSpeed := speedOut (loopStep b.force r b.ctx).speed
    outStopper := (loopStep b.force r b.ctx).stopper
    outTrip := decide ((loopStep b.force r b.ctx).state = .tripped) }

/-- Stage 6 moves stopper and integrator alone. -/
theorem closedBlock_ctx (r : Reading) (b : Block) :
    ∃ u i, (closedBlock r b).ctx = { b.ctx with stopper := u, integrator := i } := by
  show ∃ u i, loopStep b.force r b.ctx = _
  unfold loopStep
  split
  · exact ⟨_, _, rfl⟩
  · exact ⟨_, _, rfl⟩
  · exact ⟨b.ctx.stopper, b.ctx.integrator, rfl⟩

theorem levelAndOutputs_withPart :
    driveOutputs n (levelStage n r (withPart n b a al s)) = withPart n (closedBlock r b) a al s := by
  rw [driveOutputs, levelStage, mapCtx_withPart, mapBlock_withPart, withPart_block]
  rfl

/-- Outside STOPPING stage 5 does nothing (R28). -/
theorem closePeriod_withPart (h : b.ctx.state ≠ .stopping) :
    closePeriod n r (withPart n b a al s) = withPart n (closedBlock r b) a al s := by
  rw [closePeriod, stopTest, if_neg, levelAndOutputs_withPart]
  rw [ctxOf_withPart]
  exact fun e => h e.1

theorem limitFor_withPart (y : Int) : limitFor (withPart n b a al s) n y
    = commonSteps (b.force.vmax * 16) (b.force.amax * 16) b.ctx.speed y := by
  rw [limitFor, capOf, accelOf, ctxOf_withPart, withPart_block]

theorem plainStage_withPart (y : Int) : plainStage n y (withPart n b a al s) = withPart n { b with ctx := { b.ctx with
    speed := (commonSteps (b.force.vmax * 16) (b.force.amax * 16) b.ctx.speed y).speed } } a al s := by
  rw [plainStage, mapCtx_withPart, limitFor_withPart]

/-- The states in which the setpoint stands (R67). -/
abbrev stands (st : StrandState) : Prop := st = .fill ∨ st = .dwell ∨ st = .waitPermit ∨ st = .held

/-- The later stages where the setpoint stands move the setpoint (a lowered VMAX caps it), stopper and integrator. -/
theorem laterStages_stands {p : Period} (hp : p = { st := withPart n b a al s, cut := false }) (h : stands b.ctx.state) :
    ∃ u v w i, laterStages n r p = withPart n u a al s
      ∧ u.ctx = { b.ctx with speed := v, stopper := w, integrator := i } ∧ u.log = b.log := by
  subst hp
  have hspeed : speedStage n (withPart n b a al s)
      = { st := plainStage n b.ctx.speed (withPart n b a al s), actions := [] } := by
    rw [speedStage, ctxOf_withPart]
    obtain h | h | h | h := h <;> rw [h]
  have hramp : rampAndActions n (withPart n b a al s)
      = { st := plainStage n b.ctx.speed (withPart n b a al s), cut := false } := by
    rw [rampAndActions, hspeed]
    rfl
  rw [laterStages, unlessCut_going, hramp, unlessCut_going, quiet, plainStage_withPart, closePeriod_withPart]
  · obtain ⟨w, i, hc⟩ := closedBlock_ctx r { b with ctx := { b.ctx with
      speed := (commonSteps (b.force.vmax * 16) (b.force.amax * 16) b.ctx.speed b.ctx.speed).speed } }
    exact ⟨_, _, w, i, rfl, hc, rfl⟩
  · show b.ctx.state ≠ .stopping
    obtain h | h | h | h := h <;> rw [h] <;> decide

end Sound

end Sys2Proof.Machine
end

section
/-! PROOF. The timed phases of a restart: FILL, DWELL and WAIT_PERMIT on a sample stage 2 finds nothing on. -/

namespace Sys2Proof.Machine

open Sys2Proof

section Timed

variable {n : Strand} {b : Block} {a : Arbiter} {al : Bool} {s : State} {r : Reading} {l : Nat}

/-! ## Stage 3 on a part -/

theorem isFilled_withPart {q : PlanRef} (hl : r.level = some l) (hp : b.ctx.plan = some q) :
    isFilled (withPart n b a al s) n r = decide (planFill (withPart n b a al s) n q ≤ l) := by
  rw [isFilled, hl, refOf_withPart hp]

theorem planFill_withPart_plan {p : PlanNo} {rev : Nat} {h : Header} (hh : s.plans[p].header = some h) :
    planFill (withPart n b a al s) n (.plan p rev) = h.fill :=
  congrArg Header.fill (headerOf_eq (s := withPart n b a al s) hh)

theorem planDwell_withPart_plan {p : PlanNo} {rev : Nat} {h : Header} (hh : s.plans[p].header = some h) :
    planDwell (withPart n b a al s) (.plan p rev) = h.dwell :=
  congrArg Header.dwell (headerOf_eq (s := withPart n b a al s) hh)

/-- The block entering DWELL (R15). -/
def dwellBlock (b : Block) : Block := { b with ctx := { b.ctx with state := .dwell, timer := 0 } }

/-- The block entering WAIT_PERMIT as a new wait at level target `lt` (R16). -/
def waitBlock (lt : Nat) (b : Block) : Block :=
  { b with ctx := { b.ctx with state := .waitPermit, timer := 0, timeoutNoted := false, levelTarget := lt } }

/-- The arbiter with strand `n` placed in the queue as its context `c` says (R96). -/
def enqueuedArb (s : State) (n : Strand) (c : Ctx) (a : Arbiter) : Arbiter :=
  { a with queue := place { strand := n, cls := classOf c.kind, time := s.store.time } a.queue }

theorem enterWait_withPart {q : PlanRef} (hp : b.ctx.plan = some q) : enterWait n (withPart n b a al s)
    = withPart n (waitBlock (planSlot (withPart n b a al s) n q 1).level b) (enqueuedArb s n b.ctx a) al s := by
  rw [enterWait, refOf_withPart hp, mapCtx_withPart, enqueue_withPart]
  rfl

/-- FILL at its fill level under a plan with a dwell (R15). -/
theorem fillStage_dwell {q : PlanRef} (hl : r.level = some l) (hp : b.ctx.plan = some q)
    (hf : planFill (withPart n b a al s) n q ≤ l) (hd : 0 < planDwell (withPart n b a al s) q) :
    fillStage n r (withPart n b a al s) = { st := withPart n (dwellBlock b) a al s, cut := false } := by
  rw [fillStage, isFilled_withPart hl hp, decide_eq_true hf, if_pos rfl, refOf_withPart hp, if_pos hd, quiet, enterDwell,
    mapCtx_withPart]
  rfl

/-- FILL at its fill level under a plan without a dwell (R15, R16). -/
theorem fillStage_wait {q : PlanRef} (hl : r.level = some l) (hp : b.ctx.plan = some q)
    (hf : planFill (withPart n b a al s) n q ≤ l) (hd : planDwell (withPart n b a al s) q = 0) :
    fillStage n r (withPart n b a al s)
      = { st := withPart n (waitBlock (planSlot (withPart n b a al s) n q 1).level b) (enqueuedArb s n b.ctx a) al s
          cut := false } := by
  rw [fillStage, isFilled_withPart hl hp, decide_eq_true hf, if_pos rfl, refOf_withPart hp, hd, if_neg (by decide), quiet,
    enterWait_withPart hp]

/-- FILL below its fill level counts (R14). -/
theorem fillStage_below {q : PlanRef} (hl : r.level = some l) (hp : b.ctx.plan = some q)
    (hf : l < planFill (withPart n b a al s) n q) : fillStage n r (withPart n b a al s)
      = timeoutTest n .fillTimeout (b.force.fillt * 2) (withPart n b a al s) := by
  rw [fillStage, isFilled_withPart hl hp, decide_eq_false (Nat.not_le.2 hf), withPart_block]
  rfl

/-- The block with its state timer one period on. -/
def laterBlock (b : Block) : Block := { b with ctx := { b.ctx with timer := b.ctx.timer + 1 } }

theorem advanceTimer_withPart : advanceTimer n (withPart n b a al s) = withPart n (laterBlock b) a al s :=
  mapCtx_withPart _

theorem timeoutTest_noted {k : Kind} {limit : Nat} (h : b.ctx.timeoutNoted = true) :
    timeoutTest n k limit (withPart n b a al s) = { st := withPart n b a al s, cut := false } :=
  if_pos (by rw [ctxOf_withPart, h])

theorem timeoutTest_before {k : Kind} {limit : Nat} (h : b.ctx.timeoutNoted = false) (ht : b.ctx.timer + 1 < limit) :
    timeoutTest n k limit (withPart n b a al s) = { st := withPart n (laterBlock b) a al s, cut := false } := by
  rw [timeoutTest, ctxOf_withPart, if_neg (by rw [h]; decide), if_neg (Nat.not_le.2 ht), advanceTimer_withPart]

/-- The block once the timeout of kind `k` is recorded and noted (R14, R108). -/
def timedOut (s : State) (seen : Nat × Option Nat) (k : Kind) (b : Block) : Block :=
  { recordIn s.cfg s.store.time seen k (laterBlock b) with ctx := { (laterBlock b).ctx with timeoutNoted := true } }

theorem timeoutTest_limit {k : Kind} {limit : Nat} {seen : Nat × Option Nat} (hs : b.sampled = some seen)
    (h : b.ctx.timeoutNoted = false) (ht : limit ≤ b.ctx.timer + 1) : timeoutTest n k limit (withPart n b a al s)
      = { st := applyAction n (actionOf s.cfg k) (withPart n (timedOut s seen k b) a (al || alarmOf s.cfg k) s)
          cut := decide (actionOf s.cfg k = .trip) } := by
  rw [timeoutTest, ctxOf_withPart, if_neg (by rw [h]; decide), if_pos ht, advanceTimer_withPart,
    raise_withPart (observed_withPart (b := laterBlock b) hs), mapCtx_withPart]
  rfl

theorem dwellStage_before {q : PlanRef} (hp : b.ctx.plan = some q)
    (ht : b.ctx.timer + 1 < planDwell (withPart n b a al s) q * 2) :
    dwellStage n (withPart n b a al s) = withPart n (laterBlock b) a al s := by
  rw [dwellStage, advanceTimer_withPart, refOf_withPart hp, ctxOf_withPart]
  exact if_neg (Nat.not_le.2 ht)

/-- DWELL at its end (R15). -/
theorem dwellStage_end {q : PlanRef} (hp : b.ctx.plan = some q)
    (ht : planDwell (withPart n b a al s) q * 2 ≤ b.ctx.timer + 1) : dwellStage n (withPart n b a al s)
      = withPart n (waitBlock (planSlot (withPart n (laterBlock b) a al s) n q 1).level (laterBlock b))
          (enqueuedArb s n b.ctx a) al s := by
  rw [dwellStage, advanceTimer_withPart, refOf_withPart hp, ctxOf_withPart, enterWait_withPart (b := laterBlock b) hp]
  exact if_pos ht

/-! ## The sound block -/

theorem followsNorm_plan {c : Ctx} {p : PlanNo} {rev : Nat} (hi : c.state ≠ .idle) (hp : c.plan = some (.plan p rev)) :
    followsNorm c = false := by
  simp [followsNorm, hi, hp]

theorem soundCtx_levelTarget_plan {g : StrandCfg} {c : Ctx} {p : PlanNo} {rev : Nat} (hi : c.state ≠ .idle)
    (hp : c.plan = some (.plan p rev)) : (soundCtx g l c).levelTarget = c.levelTarget :=
  if_neg (by rw [followsNorm_plan hi hp]; decide)

/-- Settles O19. -/
theorem fillEndsAtTheFillLevel : Obligations.FillEndsAtTheFillLevel := by
  intro n x l s p rev h hrun hsound hst hplan hh
  have hl := readSample_valid hsound.1
  obtain ⟨b, hb, hexec⟩ := exec_sound hrun hsound
  have hbst : b.ctx.state = .fill := hb.state.trans hst
  have hbplan : b.ctx.plan = some (.plan p rev) := hb.plan.trans hplan
  have htimed : timedStage n (readSample x) (withPart n b s.arb s.alarm s)
      = fillStage n (readSample x) (withPart n b s.arb s.alarm s) := by
    rw [timedStage, ctxOf_withPart, hbst]
  rw [htimed] at hexec
  have below (hlt : l < h.fill) : fillStage n (readSample x) (withPart n b s.arb s.alarm s)
      = timeoutTest n .fillTimeout (b.force.fillt * 2) (withPart n b s.arb s.alarm s) :=
    fillStage_below hl hbplan (by rwa [planFill_withPart_plan hh])
  refine ⟨_, hexec, fun hlt hnoted ht => ?_, fun hlt hnoted => ?_, fun hle hd => ?_, fun hle hd => ?_⟩
  · have hbnoted : b.ctx.timeoutNoted = false := hb.timeoutNoted.trans hnoted
    obtain ⟨u, v, w, i, hu, huc, hul⟩ := laterStages_stands (r := readSample x)
      ((below hlt).trans (timeoutTest_before hbnoted (by rwa [hb.timer, hb.force]))) (.inl hbst)
    rw [hu, ctxOf_withPart, withPart_block, huc, hul]
    exact ⟨hbst, congrArg (· + 1) hb.timer, hbnoted, hb.log, rfl⟩
  · obtain ⟨u, v, w, i, hu, huc, hul⟩ := laterStages_stands (r := readSample x)
      ((below hlt).trans (timeoutTest_noted (hb.timeoutNoted.trans hnoted))) (.inl hbst)
    rw [hu, ctxOf_withPart, withPart_block, huc, hul]
    exact ⟨hbst, hb.timer, hb.log, rfl⟩
  · have hstage : fillStage n (readSample x) (withPart n b s.arb s.alarm s) = _ :=
      fillStage_dwell hl hbplan (by rwa [planFill_withPart_plan hh]) (by rwa [planDwell_withPart_plan hh])
    obtain ⟨u, v, w, i, hu, huc, hul⟩ := laterStages_stands (r := readSample x) hstage (.inr (.inl rfl))
    rw [hu, ctxOf_withPart, withPart_block, huc, hul]
    exact ⟨rfl, rfl, (congrArg Ctx.levelTarget hb.ctx).trans (soundCtx_levelTarget_plan (by simp [hst]) hplan), hb.log, rfl⟩
  · have hstage : fillStage n (readSample x) (withPart n b s.arb s.alarm s) = _ :=
      fillStage_wait hl hbplan (by rwa [planFill_withPart_plan hh]) (by rwa [planDwell_withPart_plan hh])
    obtain ⟨u, v, w, i, hu, huc, hul⟩ := laterStages_stands (r := readSample x) hstage (.inr (.inr (.inl rfl)))
    rw [hu, ctxOf_withPart, withPart_block, huc, hul, enqueuedArb, hb.kind]
    refine ⟨rfl, rfl, rfl, fun y hy => ?_, hb.log, rfl⟩
    show (planSlot _ n (.plan p rev) 1).level = y.level
    rw [planSlot_withPart_plan (by simpa using hy)]

/-! ## The action of a timeout -/

theorem arbAfter_tripped_standing {c : Ctx} {g : HoldReturn} (hg : g = .fill ∨ g = .waitPermit) (h : holdState g = c.state) :
    arbAfter n c .tripped a
      = if g = .waitPermit then { a with queue := a.queue.filter (·.strand != n) } else a := by
  obtain rfl | rfl := hg <;> simp [arbAfter, givesBack, leavesQueue, ← h, holdState]

/-- The rest of a period once a timeout's action has left the strand where it is. -/
theorem afterTimeout_note (h : stands b.ctx.state) : ∃ u v w i,
    laterStages n r { st := applyAction n .note (withPart n b a al s), cut := decide (Action.note = .trip) }
        = withPart n u a al s
      ∧ u.ctx = { b.ctx with speed := v, stopper := w, integrator := i } ∧ u.log = b.log :=
  laterStages_stands rfl h

/-- The rest of a period once a timeout's action has held the strand (R21, R148). -/
theorem afterTimeout_hold {g : HoldReturn} (h : holdState g = b.ctx.state) : ∃ u v w i,
    laterStages n r { st := applyAction n .hold (withPart n b a al s), cut := decide (Action.hold = .trip) }
        = withPart n u (if g = .waitPermit then { a with queue := a.queue.filter (·.strand != n) } else a) al s
      ∧ u.ctx = { b.ctx with state := .held, holdReturn := some g, lag := 0, speed := v, stopper := w, integrator := i }
      ∧ u.log = b.log := by
  have hheld : applyAction n .hold (withPart n b a al s) = _ := holdStrand_withPart h
  rw [hheld]
  exact laterStages_stands rfl (.inr (.inr (.inr rfl)))

/-- A timeout's TRIP ends the period (R148). -/
theorem afterTimeout_trip {g : HoldReturn} (hg : g = .fill ∨ g = .waitPermit) (h : holdState g = b.ctx.state) :
    laterStages n r { st := applyAction n .trip (withPart n b a al s), cut := decide (Action.trip = .trip) }
      = withPart n (trippedBlock b)
          (if g = .waitPermit then { a with queue := a.queue.filter (·.strand != n) } else a) al s := by
  rw [applyAction_trip_part, arbAfter_tripped_standing hg h]
  · rfl
  all_goals rw [← h]; cases g <;> decide

/-- Settles O22. -/
theorem timedPhasesEndAtTheirLimits : Obligations.TimedPhasesEndAtTheirLimits := by
  intro n x l s hrun hsound c left raises
  have hl := readSample_valid hsound.1
  obtain ⟨b, hb, hexec⟩ := exec_sound hrun hsound
  have raise {k : Kind} {g : HoldReturn} {limit : Nat} (hg : g = .fill ∨ g = .waitPermit) (hst : holdState g = c.state)
      (hk : k ≠ .changeOverrun)
      (htimed : timedStage n (readSample x) (withPart n b s.arb s.alarm s)
        = timeoutTest n k limit (withPart n b s.arb s.alarm s))
      (hnoted : c.timeoutNoted = false) (ht : limit ≤ c.timer + 1) : raises k g := by
    refine ⟨_, hexec, ?_⟩
    rw [htimed, timeoutTest_limit hb.sampled (hb.timeoutNoted.trans hnoted) (by rwa [hb.timer])]
    generalize hd : timedOut s (min x.measured 8000, validLevel x) k b = d
    have hlogged : d.log = logRecord s.strands[n].log (periodRecord s n x k) k (alarmOf s.cfg k) := by
      rw [← hd, ← hb.log]
      exact congrArg (logRecord _ · k _) (by rw [blockRecord, laterBlock, hb.ctx]; rfl)
    have hstate : holdState g = d.ctx.state := by
      rw [← hd]
      exact hst.trans hb.state.symm
    have hstands : stands d.ctx.state := by
      rw [← hstate]
      obtain rfl | rfl := hg
      · exact .inl rfl
      · exact .inr (.inr (.inl rfl))
    have htimer : d.ctx.timer = c.timer + 1 := by
      rw [← hd]
      exact congrArg (· + 1) hb.timer
    have hmark : d.ctx.timeoutNoted = true := by rw [← hd]; rfl
    generalize hact : actionOf s.cfg k = act
    cases act with
    | stop => exact absurd hact (actionOf_ne_stop hk)
    | note =>
      obtain ⟨u, v, w, i, hu, huc, hul⟩ := afterTimeout_note (n := n) (a := s.arb) (al := s.alarm || alarmOf s.cfg k)
        (s := s) (r := readSample x) hstands
      rw [hu, ctxOf_withPart, withPart_block, huc, hul]
      refine ⟨?_, hlogged, fun _ => ⟨hstate.symm.trans hst, htimer, hmark⟩, by simp, by simp⟩
      rw [if_neg (by simp)]
      rfl
    | hold =>
      obtain ⟨u, v, w, i, hu, huc, hul⟩ := afterTimeout_hold (n := n) (a := s.arb) (al := s.alarm || alarmOf s.cfg k)
        (s := s) (r := readSample x) hstate
      rw [hu, ctxOf_withPart, withPart_block, huc, hul]
      refine ⟨?_, hlogged, by simp, fun _ => ⟨rfl, rfl, htimer, hmark⟩, by simp⟩
      simp only [true_or, and_true]
      rfl
    | trip =>
      rw [afterTimeout_trip hg hstate, ctxOf_withPart, withPart_block]
      refine ⟨?_, hlogged, by simp, by simp, fun _ => ⟨rfl, rfl⟩⟩
      simp only [or_true, and_true]
      rfl
  have wait (hst : c.state = .waitPermit) : timedStage n (readSample x) (withPart n b s.arb s.alarm s)
      = timeoutTest n .permitWait (s.cfg.strands[n].pwait * 2) (withPart n b s.arb s.alarm s) := by
    rw [timedStage, ctxOf_withPart, hb.state.trans hst, ← hb.force, withPart_block]
  have dwell (hst : c.state = .dwell) : timedStage n (readSample x) (withPart n b s.arb s.alarm s)
      = { st := dwellStage n (withPart n b s.arb s.alarm s), cut := false } := by
    rw [timedStage, ctxOf_withPart, hb.state.trans hst]
    rfl
  refine ⟨fun hst => raise (.inr rfl) hst.symm (by decide) (wait hst), fun hst ht => ⟨_, hexec, ?_⟩, fun p rev h hplan hh =>
    ⟨fun hst hlt => raise (limit := s.cfg.strands[n].fillt * 2) (.inl rfl) hst.symm (by decide) ?_,
      fun hst ht => ⟨_, hexec, ?_⟩, fun hst ht => ⟨_, hexec, ?_⟩⟩⟩
  · have hbst := hb.state.trans hst
    cases hnoted : c.timeoutNoted with
    | true =>
      have hbnoted := hb.timeoutNoted.trans hnoted
      obtain ⟨u, v, w, i, hu, huc, hul⟩ := laterStages_stands (r := readSample x)
        ((wait hst).trans (timeoutTest_noted hbnoted)) (.inr (.inr (.inl hbst)))
      rw [hu, ctxOf_withPart, withPart_block, huc, hul]
      exact ⟨rfl, hbst, hbnoted, hb.timer, hb.log⟩
    | false =>
      have hbnoted := hb.timeoutNoted.trans hnoted
      have hlt : c.timer + 1 < s.cfg.strands[n].pwait * 2 := ht.resolve_left (by simp [hnoted])
      obtain ⟨u, v, w, i, hu, huc, hul⟩ := laterStages_stands (r := readSample x)
        ((wait hst).trans (timeoutTest_before hbnoted (by rwa [hb.timer]))) (.inr (.inr (.inl hbst)))
      rw [hu, ctxOf_withPart, withPart_block, huc, hul]
      exact ⟨rfl, hbst, hbnoted, congrArg (· + 1) hb.timer, hb.log⟩
  · rw [timedStage, ctxOf_withPart, hb.state.trans hst, ← hb.force]
    exact fillStage_below hl (hb.plan.trans hplan) (by rwa [planFill_withPart_plan hh])
  · have hstage : dwellStage n (withPart n b s.arb s.alarm s) = _ := dwellStage_before (hb.plan.trans hplan)
      (by rwa [planDwell_withPart_plan hh, hb.timer])
    obtain ⟨u, v, w, i, hu, huc, hul⟩ := laterStages_stands (r := readSample x)
      ((dwell hst).trans (congrArg (Period.mk · false) hstage)) (.inr (.inl (hb.state.trans hst)))
    rw [hu, ctxOf_withPart, withPart_block, huc, hul]
    exact ⟨rfl, hb.state.trans hst, congrArg (· + 1) hb.timer, hb.log⟩
  · have hstage : dwellStage n (withPart n b s.arb s.alarm s) = _ := dwellStage_end (hb.plan.trans hplan)
      (by rwa [planDwell_withPart_plan hh, hb.timer])
    obtain ⟨u, v, w, i, hu, huc, hul⟩ := laterStages_stands (r := readSample x)
      ((dwell hst).trans (congrArg (Period.mk · false) hstage)) (.inr (.inr (.inl rfl)))
    rw [hu, ctxOf_withPart, withPart_block, huc, hul, enqueuedArb, hb.kind]
    refine ⟨rfl, rfl, rfl, rfl, fun y hy => ?_, hb.log⟩
    show (planSlot _ n (.plan p rev) 1).level = y.level
    rw [planSlot_withPart_plan (by simpa using hy)]

end Timed

end Sys2Proof.Machine
end

section
/-! PROOF. The two ends of a strand's run in a control period: STOPPING into IDLE, and the trip on a breakout. -/

namespace Sys2Proof.Machine

open Sys2Proof

section Ends

variable {n : Strand} {b : Block} {a : Arbiter} {al : Bool} {s : State} {r : Reading} {l : Nat}

/-! ## STOPPING -/

/-- Toward 0 the common steps take at most the acceleration limit off the setpoint (R69). -/
theorem commonSteps_zero (cap accel prev : Nat) : (commonSteps cap accel prev 0).speed = prev - accel := by
  show (rateStep accel prev (capStep cap 0)).toNat = prev - accel
  have hcap : capStep cap 0 = 0 := if_neg (by omega)
  rw [hcap, rateStep, if_neg (by omega)]
  split <;> omega

/-- The block entering IDLE (R11). -/
def idleBlock (b : Block) : Block := { b with ctx := toIdle b.ctx, outStopper := 0 }

theorem closePeriod_idle (h : b.ctx.state = .stopping ∧ b.ctx.speed = 0 ∧ r.measured < 10) :
    closePeriod n r (withPart n b a al s) = withPart n (closedBlock r (idleBlock b)) a al s := by
  rw [closePeriod, stopTest, ctxOf_withPart, if_pos h, enterIdle, mapBlock_withPart, levelAndOutputs_withPart]
  rfl

theorem closePeriod_running (h : ¬ (b.ctx.state = .stopping ∧ b.ctx.speed = 0 ∧ r.measured < 10)) :
    closePeriod n r (withPart n b a al s) = withPart n (closedBlock r b) a al s := by
  rw [closePeriod, stopTest, ctxOf_withPart, if_neg h, levelAndOutputs_withPart]

theorem closedBlock_off (h : b.ctx.mode = .off) : (closedBlock r b).ctx = { b.ctx with stopper := 0, integrator := 0 } := by
  show loopStep b.force r b.ctx = _
  unfold loopStep
  split
  · simp_all
  · rfl
  · simp_all

/-- The later stages in STOPPING, up to the end of stage 4 (R69). -/
theorem laterStages_stopping (h : b.ctx.state = .stopping) : laterStages n r (timedStage n r (withPart n b a al s))
    = closePeriod n r (withPart n { b with ctx := { b.ctx with speed := b.ctx.speed - b.force.amax * 16 } } a al s) := by
  have htimed : timedStage n r (withPart n b a al s) = { st := withPart n b a al s, cut := false } := by
    rw [timedStage, ctxOf_withPart, h]
  have hramp : rampAndActions n (withPart n b a al s) = { st := plainStage n 0 (withPart n b a al s), cut := false } := by
    rw [rampAndActions, speedStage, ctxOf_withPart, h]
    rfl
  rw [htimed, laterStages, unlessCut_going, hramp, unlessCut_going, quiet, plainStage_withPart, commonSteps_zero]

/-- Settles O21. -/
theorem stoppingRunsDownToIdle : Obligations.StoppingRunsDownToIdle := by
  intro n x l s hrun hsound hst
  obtain ⟨b, hb, hexec⟩ := exec_sound hrun hsound
  have hbst : b.ctx.state = .stopping := hb.state.trans hst
  rw [laterStages_stopping hbst] at hexec
  refine ⟨_, hexec, ?_⟩
  generalize hd : ({ b with ctx := { b.ctx with speed := b.ctx.speed - b.force.amax * 16 } } : Block) = d
  have hdst : d.ctx.state = .stopping := by rw [← hd]; exact hbst
  have hdspeed : d.ctx.speed = (ctxOf s n).speed - s.cfg.strands[n].amax * 16 := by rw [← hd, ← hb.speed, ← hb.force]
  have hdlog : d.log = s.strands[n].log := by rw [← hd]; exact hb.log
  have hdresume : d.ctx.resume = (ctxOf s n).resume := by rw [← hd]; exact hb.resume
  have hslow : (readSample x).measured < 10 ↔ x.measured < 10 := limitMeasured_lt
  by_cases hend : d.ctx.state = .stopping ∧ d.ctx.speed = 0 ∧ (readSample x).measured < 10
  · rw [closePeriod_idle hend, ctxOf_withPart, withPart_block, closedBlock_off rfl]
    obtain ⟨-, hzero, hmeasured⟩ := hend
    exact ⟨hdspeed, fun _ _ => ⟨rfl, rfl, rfl, rfl⟩, fun h => absurd ⟨hzero, hslow.1 hmeasured⟩ h, hdlog, rfl⟩
  · obtain ⟨w, i, hc⟩ := closedBlock_ctx (readSample x) d
    rw [closePeriod_running hend, ctxOf_withPart, withPart_block, hc]
    exact ⟨hdspeed, fun h h' => absurd ⟨hdst, h, hslow.2 h'⟩ hend, fun _ => ⟨hdst, hdresume⟩, hdlog, rfl⟩

/-! ## BREAKOUT -/

/-- The opening of a period moves level history, extremes, mode and level target alone (R75, R76, R77, R82). -/
theorem openedBlock_ctx (g : StrandCfg) (r : Reading) (b : Block) : ∃ h e m lt,
    (openedBlock g r b).ctx = { b.ctx with history := h, extremes := e, mode := m, levelTarget := lt } := by
  have opened (c : Ctx) : ∃ h e m, takeLevel r.level c = { c with history := h, extremes := e, mode := m } := by
    cases r.level with
    | none => exact ⟨_, c.extremes, _, rfl⟩
    | some l => exact ⟨_, _, _, rfl⟩
  rw [openedBlock]
  by_cases hn : followsNorm b.ctx = true
  · rw [if_pos hn]
    obtain ⟨h, e, m, ho⟩ := opened { b.ctx with levelTarget := g.lnorm }
    exact ⟨h, e, m, _, ho⟩
  · rw [if_neg hn]
    obtain ⟨h, e, m, ho⟩ := opened b.ctx
    exact ⟨h, e, m, b.ctx.levelTarget, ho⟩

/-- The onset of a condition whose action is TRIP ends the period (R148, R153). -/
theorem checkCond_onset_trip {k : Cond} {seen : Nat × Option Nat} (hs : b.sampled = some seen)
    (hi : b.ctx.state ≠ .idle) (ht : b.ctx.state ≠ .tripped) (hk : isActive b.active k = false)
    (hact : actionOf s.cfg (condKind k) = .trip) : checkCond n k .present (withPart n b a al s)
      = { st := withPart n (trippedBlock { recordIn s.cfg s.store.time seen (condKind k) b with
            active := setActive b.active true k }) (arbAfter n b.ctx .tripped a) (al || alarmOf s.cfg (condKind k)) s
          cut := true } := by
  rw [checkCond, withPart_block, if_neg (by rw [hk]; decide), withPart_cfg, hact, raise_withPart (observed_withPart hs),
    setCondition, mapBlock_withPart]
  exact congrArg (Period.mk · true) (applyAction_trip_part hi ht)

/-- Settles O17. -/
theorem breakoutTripsTheStrand : Obligations.BreakoutTripsTheStrand := by
  intro n x s hrun hx hi ht hactive
  generalize hb : openedBlock s.cfg.strands[n] (readSample x) s.strands[n] = b
  obtain ⟨h, e, m, lt, hctx⟩ : ∃ h e m lt,
      b.ctx = { ctxOf s n with history := h, extremes := e, mode := m, levelTarget := lt } := by
    rw [← hb]
    exact openedBlock_ctx _ _ _
  have hst : b.ctx.state = (ctxOf s n).state := by rw [hctx]
  have hbreakout : checkBreakout n (readSample x) (withPart n b s.arb s.alarm s)
      = { st := withPart n (trippedBlock { recordIn s.cfg s.store.time (min x.measured 8000, validLevel x) .breakout b with
            active := setActive b.active true .breakout }) (arbAfter n b.ctx .tripped s.arb) (s.alarm || true) s
          cut := true } := by
    have hread : (readSample x).breakout = true := hx
    rw [checkBreakout, ctxOf_withPart, hst, isWatched_iff.2 ⟨hi, ht⟩, hread]
    refine checkCond_onset_trip ?_ (hst ▸ hi) (hst ▸ ht) ?_ rfl
    · rw [← hb]
      rfl
    · rw [← hb]
      exact hactive
  have hexec : exec (.controlPeriod n x) s = .next (checkBreakout n (readSample x) (withPart n b s.arb s.alarm s)).st := by
    rw [exec, execControlPeriod, whenRunning, if_pos hrun, periodOn, checks, openPeriod_part, hb, hbreakout]
    rfl
  refine ⟨_, blockRecord s.cfg s.store.time (min x.measured 8000, validLevel x) b .breakout, hexec, ?_⟩
  rw [hbreakout, ctxOf_withPart, withPart_block]
  have hlog : b.log = s.strands[n].log := by rw [← hb]; rfl
  have hset : b.active = s.strands[n].active := by rw [← hb]; rfl
  refine ⟨rfl, rfl, rfl, rfl, rfl, rfl, rfl, rfl, rfl, rfl, rfl, rfl, ?_, ?_, Bool.or_true _, rfl, rfl, hst, ?_⟩
  · rw [← hset]
    rfl
  · rw [← hlog]
    rfl
  · rw [blockRecord, hctx]
    exact ⟨rfl, rfl, rfl, rfl, rfl, rfl, rfl, rfl⟩

end Ends

end Sys2Proof.Machine
end

section
/-! SUPPORT. Stage 4 in RAMP and CAST on a part: what it records, and the actions of its records. -/

namespace Sys2Proof.Machine

open Sys2Proof

section Ramp

variable {n : Strand} {b : Block} {a : Arbiter} {al : Bool} {s : State} {r : Reading} {l : Nat} {rs : List StrandRec}
  {seen : Nat × Option Nat} {b' : Block} {a' : Arbiter}

/-! ## Records of a stage -/

/-- A block with the records `rs` entered into its log one after another. -/
def withRecords (rs : List StrandRec) (b : Block) : Block :=
  { b with log := rs.foldl (fun g q => logRecord g q q.kind q.mark) b.log }

/-- What the Ramp Generator leaves: the part, its records entered, and their actions, still to be applied. -/
def ramped (n : Strand) (s : State) (a : Arbiter) (al : Bool) (rs : List StrandRec) (b : Block) : Ramped :=
  { st := withPart n (withRecords rs b) a (al || rs.any StrandRec.mark) s
    actions := rs.map fun q => actionOf s.cfg q.kind }

theorem ramped_nil : ramped n s a al [] b = { st := withPart n b a al s, actions := [] } := by
  rw [ramped, List.any_nil, Bool.or_false]
  rfl

theorem ctxOf_ramped : ctxOf (ramped n s a al rs b).st n = b.ctx := ctxOf_withPart

theorem ramped_mapCtx (g : Ctx → Ctx) :
    ({ ramped n s a al rs b with st := mapCtx n g (ramped n s a al rs b).st } : Ramped)
      = ramped n s a al rs { b with ctx := g b.ctx } :=
  congrArg (Ramped.mk · _) (mapCtx_withPart g)

theorem rampDeviation_ramped (h : b.sampled = some seen) (k : Kind) : rampDeviation n k (ramped n s a al rs b)
    = ramped n s a al (rs ++ [blockRecord s.cfg s.store.time seen b k]) b := by
  have hlog : recordIn s.cfg s.store.time seen k (withRecords rs b)
      = withRecords (rs ++ [blockRecord s.cfg s.store.time seen b k]) b := by
    rw [withRecords, withRecords, List.foldl_append]
    rfl
  have hmark : (al || (rs ++ [blockRecord s.cfg s.store.time seen b k]).any StrandRec.mark)
      = (al || rs.any StrandRec.mark || alarmOf s.cfg k) := by
    rw [List.any_append, ← Bool.or_assoc]
    exact congrArg (al || rs.any StrandRec.mark || ·) (Bool.or_false _)
  rw [rampDeviation, ramped, ramped, raise_withPart (observed_withPart (b := withRecords rs b) h), hlog, hmark,
    List.map_append]
  rfl

/-- A marked report (R63, R66): recorded where it acts and is not yet noted. -/
def reportsOf (acts noted : Bool) (q : StrandRec) : List StrandRec := if acts && !noted then [q] else []

theorem reportCap_ramped (h : b.sampled = some seen) (l : Limited) : reportCap n l (ramped n s a al rs b)
    = ramped n s a al
        (rs ++ reportsOf l.capped b.ctx.limitNoted (blockRecord s.cfg s.store.time seen b .speedLimit))
        { b with ctx := { b.ctx with limitNoted := b.ctx.limitNoted || l.capped } } := by
  rw [reportCap, ctxOf_ramped, reportsOf]
  split
  · rename_i hc
    obtain ⟨hc, hn⟩ := (Bool.and_eq_true _ _).mp hc
    rw [ramped_mapCtx, rampDeviation_ramped (b := { b with ctx := { b.ctx with limitNoted := true } }) h, hc, Bool.or_true]
    rfl
  · rename_i hc
    have hnoted : (b.ctx.limitNoted || l.capped) = b.ctx.limitNoted := by
      cases hl : l.capped <;> cases hb : b.ctx.limitNoted <;> simp_all
    rw [hnoted, List.append_nil]

theorem reportClamp_ramped (h : b.sampled = some seen) (l : Limited) : reportClamp n l (ramped n s a al rs b)
    = ramped n s a al
        (rs ++ reportsOf l.clamped b.ctx.rateNoted (blockRecord s.cfg s.store.time seen b .rateClamp))
        { b with ctx := { b.ctx with rateNoted := b.ctx.rateNoted || l.clamped } } := by
  rw [reportClamp, ctxOf_ramped, reportsOf]
  split
  · rename_i hc
    obtain ⟨hc, hn⟩ := (Bool.and_eq_true _ _).mp hc
    rw [ramped_mapCtx, rampDeviation_ramped (b := { b with ctx := { b.ctx with rateNoted := true } }) h, hc, Bool.or_true]
    rfl
  · rename_i hc
    have hnoted : (b.ctx.rateNoted || l.clamped) = b.ctx.rateNoted := by
      cases hl : l.clamped <;> cases hb : b.ctx.rateNoted <;> simp_all
    rw [hnoted, List.append_nil]

/-- The two reports of a step limited as `l` (R63, R66). -/
def stepReports (s : State) (seen : Nat × Option Nat) (l : Limited) (b : Block) : List StrandRec :=
  reportsOf l.capped b.ctx.limitNoted (blockRecord s.cfg s.store.time seen b .speedLimit)
    ++ reportsOf l.clamped b.ctx.rateNoted (blockRecord s.cfg s.store.time seen b .rateClamp)

/-- The block once the two reports of a step are noted. -/
def noted (l : Limited) (b : Block) : Block :=
  { b with ctx := { b.ctx with
      limitNoted := b.ctx.limitNoted || l.capped, rateNoted := b.ctx.rateNoted || l.clamped } }

theorem reports_ramped (h : b.sampled = some seen) (l : Limited) :
    reportClamp n l (reportCap n l { st := withPart n b a al s, actions := [] })
      = ramped n s a al (stepReports s seen l b) (noted l b) := by
  rw [← ramped_nil, reportCap_ramped h,
    reportClamp_ramped (b := { b with ctx := { b.ctx with limitNoted := b.ctx.limitNoted || l.capped } }) h]
  rfl

/-- The slot that starts may have its target capped, which is recorded in the new slot (R59, R60). -/
theorem startSlot_ramped {i : Nat} {y : Slot} (h : b.sampled = some seen)
    (hy : planSlot (ramped n s a al rs b).st n (refOf (ramped n s a al rs b).st n) i = y) :
    startSlot n i (ramped n s a al rs b) = ramped n s a al
      (rs ++ if soughtBy b y > b.force.vmax * 16
        then [blockRecord s.cfg s.store.time seen (slotStarted i y b) .speedLimit] else [])
      (slotStarted i y b) := by
  have hcap : capOf (ramped n s a al rs b).st n = b.force.vmax * 16 := by
    rw [capOf, ramped, withPart_block]
    rfl
  simp only [startSlot, hy, hcap, ctxOf_ramped, ramped_mapCtx, decide_eq_true_eq]
  split
  · exact rampDeviation_ramped (b := slotStarted i y b) h .speedLimit
  · rw [List.append_nil]
    rfl

/-! ## Slot ends -/

/-- The block entering CAST at the end of the last slot, with the level `lt` (R19). -/
def castBlock (lt : Nat) (b : Block) : Block :=
  { b with ctx := { b.ctx with
      state := .cast, permit := false, kind := none, plan := none, resume := none, slot := none, levelTarget := lt
      rateNoted := false, limitNoted := false } }

/-- The arbiter without `n` among its holders (R99). -/
abbrev releasedArb (n : Strand) (a : Arbiter) : Arbiter := { a with holders := a.holders.filter (· != n) }

/-- The slot a strand under the settings `g` reads at position `i` of a plan (R53). -/
def slotUnder (s : State) (g : StrandCfg) (q : PlanRef) (i : Nat) : Slot :=
  match q with
  | .plan p _ => slotOf s p i
  | .fallback => { target := .resume, duration := 300, level := g.lnorm, step := .auto }

theorem planSlot_withPart (q : PlanRef) (i : Nat) : planSlot (withPart n b a al s) n q i = slotUnder s b.force q i := by
  cases q with
  | plan p rev => rfl
  | fallback => exact planSlot_withPart_fallback

theorem planCount_withPart (q : PlanRef) : planCount (withPart n b a al s) q = planCount s q := by
  cases q <;> rfl

theorem enterCast_withPart {q : PlanRef} (hst : b.ctx.state = .ramp) (hp : b.ctx.plan = some q) :
    enterCast n (withPart n b a al s)
      = withPart n (castBlock (slotUnder s b.force q (planCount s q)).level b) (releasedArb n a) al s := by
  have hpermit : permitAfter b.ctx .cast = false := if_pos (.inl ⟨hst, by decide⟩)
  have harb : arbAfter n b.ctx .cast a = releasedArb n a := by simp [arbAfter, leavesQueue, givesBack, hst]
  rw [enterCast, refOf_withPart hp, planSlot_withPart, planCount_withPart, leaveFor_withPart, mapCtx_withPart, hpermit, harb]
  rfl

/-- RAMP_SHORT where a slot ends off its target (R64). -/
def shortReports (s : State) (seen : Nat × Option Nat) (b : Block) : List StrandRec :=
  if b.ctx.target = some b.ctx.speed then [] else [blockRecord s.cfg s.store.time seen b .rampShort]

theorem shortReport_ramped (h : b.sampled = some seen) :
    (if (ctxOf (ramped n s a al rs b).st n).target = some (ctxOf (ramped n s a al rs b).st n).speed
      then ramped n s a al rs b else rampDeviation n .rampShort (ramped n s a al rs b))
      = ramped n s a al (rs ++ shortReports s seen b) b := by
  rw [ctxOf_ramped, shortReports]
  split
  · rw [List.append_nil]
  · exact rampDeviation_ramped h .rampShort

theorem refOf_ramped {q : PlanRef} (hp : b.ctx.plan = some q) : refOf (ramped n s a al rs b).st n = q :=
  refOf_withPart (b := withRecords rs b) hp

theorem planCount_ramped (q : PlanRef) : planCount (ramped n s a al rs b).st q = planCount s q := planCount_withPart q

/-- The records of a slot's end under the next slot `z`, of position `i` (R59, R60, R64). -/
def nextReports (s : State) (seen : Nat × Option Nat) (i : Nat) (z : Slot) (b : Block) : List StrandRec :=
  if soughtBy b z > b.force.vmax * 16 then [blockRecord s.cfg s.store.time seen (slotStarted i z b) .speedLimit] else []

/-- A slot ends and the next one starts (R19, R64). -/
theorem endSlot_next {q : PlanRef} {r : SlotRun} {z : Slot} (h : b.sampled = some seen) (hp : b.ctx.plan = some q)
    (hr : r.index < planCount s q) (hz : slotUnder s b.force q (r.index + 1) = z) :
    endSlot n r (ramped n s a al rs b) = ramped n s a al
      (rs ++ shortReports s seen b ++ nextReports s seen (r.index + 1) z b) (slotStarted (r.index + 1) z b) := by
  rw [endSlot, shortReport_ramped h]
  rw [refOf_ramped hp, planCount_ramped, if_pos hr]
  refine startSlot_ramped h ?_
  rw [refOf_ramped hp]
  exact (planSlot_withPart q _).trans hz

/-- The last slot ends in CAST (R19, R64). -/
theorem endSlot_last {q : PlanRef} {r : SlotRun} (h : b.sampled = some seen) (hst : b.ctx.state = .ramp)
    (hp : b.ctx.plan = some q) (hr : planCount s q ≤ r.index) :
    endSlot n r (ramped n s a al rs b) = ramped n s (releasedArb n a) al (rs ++ shortReports s seen b)
      (castBlock (slotUnder s b.force q (planCount s q)).level b) := by
  rw [endSlot, shortReport_ramped h]
  rw [refOf_ramped hp, planCount_ramped, if_neg (Nat.not_lt.2 hr)]
  exact congrArg (Ramped.mk · _) (enterCast_withPart (b := withRecords (rs ++ shortReports s seen b) b) hst hp)

/-! ## The stages -/

/-- What the common steps make of the candidate `y` at a block (R57). -/
abbrev limitedAt (b : Block) (y : Int) : Limited := commonSteps (b.force.vmax * 16) (b.force.amax * 16) b.ctx.speed y

/-- The block of a ramp one period on, with its setpoint moved as `l` says (R61). -/
def steppedBlock (r : SlotRun) (l : Limited) (b : Block) : Block :=
  { b with ctx := { b.ctx with slot := some { r with k := r.k + 1 }, speed := l.speed } }

/-- A ramp period before the end of its slot (R61 to R63). -/
theorem rampStage_goesOn {r : SlotRun} {st : Nat} (h : b.sampled = some seen) (hr : b.ctx.slot = some r)
    (ht : b.ctx.target = some st) (hk : r.k + 1 ≠ r.n) :
    let l := limitedAt b (rampCandidate { r with k := r.k + 1 } st b.ctx.speed)
    rampStage n (withPart n b a al s) = ramped n s a al (stepReports s seen l (steppedBlock r l b))
      (noted l (steppedBlock r l b)) := by
  intro l
  rw [rampStage, ctxOf_withPart, hr, ht]
  dsimp only
  rw [if_neg hk, limitFor_withPart, mapCtx_withPart]
  exact reports_ramped (b := steppedBlock r l b) h l

/-- A ramp period at the end of its slot (R64). -/
theorem rampStage_ends {r : SlotRun} {st : Nat} (h : b.sampled = some seen) (hr : b.ctx.slot = some r)
    (ht : b.ctx.target = some st) (hk : r.k + 1 = r.n) :
    let l := limitedAt b (rampCandidate { r with k := r.k + 1 } st b.ctx.speed)
    rampStage n (withPart n b a al s) = endSlot n { r with k := r.k + 1 }
      (ramped n s a al (stepReports s seen l (steppedBlock r l b)) (noted l (steppedBlock r l b))) := by
  intro l
  rw [rampStage, ctxOf_withPart, hr, ht]
  dsimp only
  rw [if_pos hk, limitFor_withPart, mapCtx_withPart]
  exact congrArg (endSlot n { r with k := r.k + 1 }) (reports_ramped (b := steppedBlock r l b) h l)

/-- The block in CAST with its setpoint moved as `l` says (R66). -/
def movedBlock (l : Limited) (b : Block) : Block := { b with ctx := { b.ctx with speed := l.speed } }

theorem castStage_part {st : Nat} (h : b.sampled = some seen) (ht : b.ctx.target = some st) :
    let l := limitedAt b st
    castStage n (withPart n b a al s) = ramped n s a al (stepReports s seen l (movedBlock l b))
      (noted l (movedBlock l b)) := by
  intro l
  rw [castStage, ctxOf_withPart, ht]
  dsimp only [Option.getD_some]
  rw [limitFor_withPart, mapCtx_withPart]
  exact reports_ramped (b := movedBlock l b) h l

/-! ## Actions after the stage -/

theorem applyActions_cons (act : Action) (as : List Action) (s : State) :
    applyActions n (act :: as) s = applyActions n as (applyAction n act s) := rfl

theorem applyAction_hold_still (h : ∀ g, holdState g ≠ b.ctx.state) :
    applyAction n .hold (withPart n b a al s) = withPart n b a al s :=
  holdStrand_none n _ (by rwa [ctxOf_withPart])

theorem applyAction_tripped {act : Action} (h : b.ctx.state = .tripped) :
    applyAction n act (withPart n b a al s) = withPart n b a al s := by
  cases act with
  | note => rfl
  | hold => exact applyAction_hold_still fun g e => by rw [h] at e; cases g <;> cases e
  | stop => exact if_neg (by rw [ctxOf_withPart]; simp [stopsAtOverrun, h])
  | trip => exact if_pos (.inr (by rw [ctxOf_withPart, h]))

theorem applyActions_tripped {as : List Action} (h : b.ctx.state = .tripped) :
    applyActions n as (withPart n b a al s) = withPart n b a al s := by
  induction as with
  | nil => rfl
  | cons act as ih => rw [applyActions_cons, applyAction_tripped h, ih]

/-- Actions other than TRIP leave a strand that none of the four states holds where it is (R148). -/
theorem applyActions_still {as : List Action} (h : ∀ g, holdState g ≠ b.ctx.state) (hs : .stop ∉ as) (ht : .trip ∉ as) :
    applyActions n as (withPart n b a al s) = withPart n b a al s := by
  induction as with
  | nil => rfl
  | cons act as ih =>
    rw [List.mem_cons, not_or] at hs ht
    have hact : applyAction n act (withPart n b a al s) = withPart n b a al s := by
      cases act with
      | note => rfl
      | hold => exact applyAction_hold_still h
      | stop => exact absurd rfl hs.1
      | trip => exact absurd rfl ht.1
    rw [applyActions_cons, hact, ih hs.2 ht.2]

/-- Actions other than TRIP on a ramp: the first HOLD holds it (R148). -/
theorem applyActions_ramp {as : List Action} (h : b.ctx.state = .ramp) (hs : .stop ∉ as) (ht : .trip ∉ as) :
    applyActions n as (withPart n b a al s) = withPart n (if .hold ∈ as then heldRamp b else b) a al s := by
  induction as with
  | nil => rfl
  | cons act as ih =>
    rw [List.mem_cons, not_or] at hs ht
    rw [applyActions_cons]
    cases act with
    | note => exact (ih hs.2 ht.2).trans (by simp)
    | hold =>
      rw [applyAction_hold_ramp h, applyActions_still ?_ hs.2 ht.2, if_pos List.mem_cons_self]
      intro g e
      cases g <;> cases e
    | stop => exact absurd rfl hs.1
    | trip => exact absurd rfl ht.1

/-- The states a strand may be in between the actions of a stage, short of TRIPPED. -/
abbrev mayTrip (c : Ctx) : Prop := c.state = .ramp ∨ c.state = .cast ∨ (c.state = .held ∧ c.holdReturn = some .ramp)

/-- A TRIP among the actions trips the strand, whether or not an earlier HOLD has held it (R148). -/
theorem applyActions_trip_part {as : List Action} (h : mayTrip b.ctx) (hs : .stop ∉ as) (ht : .trip ∈ as) : ∃ u,
    applyActions n as (withPart n b a al s) = withPart n u (arbAfter n b.ctx .tripped a) al s
      ∧ u.ctx.state = .tripped ∧ u.outTrip = true ∧ u.log = b.log := by
  induction as generalizing b with
  | nil => cases ht
  | cons act as ih =>
    rw [List.mem_cons, not_or] at hs
    rw [applyActions_cons]
    have rest (hne : act ≠ .trip) : .trip ∈ as := (List.mem_cons.1 ht).resolve_left hne.symm
    cases act with
    | note => exact ih h hs.2 (rest (by decide))
    | stop => exact absurd rfl hs.1
    | hold =>
      by_cases hr : b.ctx.state = .ramp
      · have harb : arbAfter n (heldRamp b).ctx .tripped a = arbAfter n b.ctx .tripped a := by
          simp [arbAfter, givesBack, leavesQueue, heldRamp, hr]
        rw [applyAction_hold_ramp hr, ← harb]
        exact ih (.inr (.inr ⟨rfl, rfl⟩)) hs.2 (rest (by decide))
      · rw [applyAction_hold_still]
        · exact ih h hs.2 (rest (by decide))
        · intro g e
          obtain h | h | ⟨h, -⟩ := h <;> cases g <;> simp_all [holdState]
    | trip =>
      have hne : b.ctx.state ≠ .idle ∧ b.ctx.state ≠ .tripped := by
        obtain h | h | ⟨h, -⟩ := h <;> rw [h] <;> decide
      rw [applyAction_trip_part hne.1 hne.2]
      exact ⟨_, applyActions_tripped rfl, rfl, rfl, rfl⟩

/-! ## From stage 4 to the end of the period -/

/-- What a strand holds at the end of a period whose stage 4 left it `b` and the actions `as` without TRIP. -/
def actedBlock (as : List Action) (b : Block) : Block := if b.ctx.state = .ramp ∧ .hold ∈ as then heldRamp b else b

theorem actedBlock_log (as : List Action) (b : Block) : (actedBlock as b).log = b.log := by
  unfold actedBlock
  split <;> rfl

theorem actedBlock_withRecords (as : List Action) (rs : List StrandRec) (b : Block) :
    (actedBlock as (withRecords rs b)).ctx = (actedBlock as b).ctx := by
  show (if b.ctx.state = .ramp ∧ .hold ∈ as then heldRamp (withRecords rs b) else withRecords rs b).ctx = _
  unfold actedBlock
  split <;> rfl

theorem actedBlock_state (as : List Action) (b : Block) :
    (actedBlock as b).ctx.state = if b.ctx.state = .ramp ∧ .hold ∈ as then .held else b.ctx.state := by
  unfold actedBlock
  split <;> rfl

theorem applyActions_quiet {as : List Action} (h : b.ctx.state = .ramp ∨ b.ctx.state = .cast) (hs : .stop ∉ as)
    (ht : .trip ∉ as) : applyActions n as (withPart n b a al s) = withPart n (actedBlock as b) a al s := by
  obtain h | h := h
  · rw [applyActions_ramp h hs ht, actedBlock]
    simp only [h, true_and]
  · rw [applyActions_still (fun g e => by rw [h] at e; cases g <;> cases e) hs ht, actedBlock, if_neg]
    simp [h]

/-- The end of a period whose stage 4 left the part `ramped`: TRIP cuts it short, and otherwise the Level Loop and the
outputs follow. -/
theorem laterStages_ramped (hspeed : speedStage n (withPart n b a al s) = ramped n s a' al rs b')
    (hst : b'.ctx.state = .ramp ∨ b'.ctx.state = .cast) (hk : ∀ q ∈ rs, q.kind ≠ .changeOverrun) :
    let as := rs.map fun q => actionOf s.cfg q.kind
    ∃ u, laterStages n r { st := withPart n b a al s, cut := false }
        = withPart n u (if .trip ∈ as then arbAfter n b'.ctx .tripped a' else a') (al || rs.any StrandRec.mark) s
      ∧ u.log = (withRecords rs b').log
      ∧ (.trip ∈ as → u.ctx.state = .tripped ∧ u.outTrip = true)
      ∧ (.trip ∉ as → ∃ w i, u.ctx = { (actedBlock as b').ctx with stopper := w, integrator := i }) := by
  intro as
  have hstop : .stop ∉ as := by
    intro h
    obtain ⟨q, hq, e⟩ := List.mem_map.1 h
    exact actionOf_ne_stop (hk q hq) e
  have hramp : rampAndActions n (withPart n b a al s)
      = { st := applyActions n as (withPart n (withRecords rs b') a' (al || rs.any StrandRec.mark) s)
          cut := as.contains .trip } := by
    rw [rampAndActions, hspeed]
    rfl
  rw [laterStages, unlessCut_going, hramp]
  by_cases ht : .trip ∈ as
  · obtain ⟨u, hu, hus, huo, hul⟩ := applyActions_trip_part (n := n) (b := withRecords rs b') (a := a')
      (al := al || rs.any StrandRec.mark) (s := s) (hst.imp_right .inl) hstop ht
    rw [hu, if_pos ht, List.contains_iff_mem.2 ht]
    exact ⟨u, rfl, hul, fun _ => ⟨hus, huo⟩, fun h => absurd ht h⟩
  · rw [applyActions_quiet (b := withRecords rs b') hst hstop ht, if_neg ht,
      Bool.eq_false_iff.2 (mt List.contains_iff_mem.1 ht), unlessCut_going, quiet, closePeriod_withPart]
    · obtain ⟨w, i, hc⟩ := closedBlock_ctx r (actedBlock as (withRecords rs b'))
      refine ⟨_, rfl, ?_, fun h => absurd h ht, fun _ => ⟨w, i, hc.trans ?_⟩⟩
      · exact actedBlock_log as _
      · rw [actedBlock_withRecords]
    · rw [actedBlock_withRecords, actedBlock_state]
      split
      · decide
      · obtain h | h := hst <;> rw [h] <;> decide

end Ramp

end Sys2Proof.Machine
end

section
/-! PROOF. A ramp's steps and slot ends in a control period. -/

namespace Sys2Proof.Machine

open Sys2Proof

/-! ## A capped next slot under TRIP -/

/-- A plan whose second slot asks for 1800 mm/min. -/
def steepPlan : Plan :=
  { state := .valid, rev := 1
    header := some { kind := .start, fill := 900, dwell := 0, count := 2, name := [] }
    slots := ((Vector.replicate 16 none).set 0
      (some { target := .speed 600, duration := 100, level := 900, step := .auto })).set 1
      (some { target := .speed 1800, duration := 300, level := 900, step := .auto }) }

/-- The slot strand 1 of `steepRamp` is in, one period before its end. -/
def steepSlot : SlotRun := { index := 1, k := 199, s0 := 0, n := 200, step := .auto }

/-- Strand 1 in the last period of slot 1 under that plan, with VMAX at 600 mm/min and SPEED_LIMIT steered to TRIP. -/
def steepRamp : State :=
  { mapBlock 0 (fun b => { b with
      outSpeed := 597
      ctx := { b.ctx with
        state := .ramp, kind := some .start, plan := some (.plan 0 1), mode := .closed, levelTarget := 900, permit := true
        slot := some steepSlot, target := some 9600, speed := 9552 } }) State.reset with
    plans := State.reset.plans.set 0 steepPlan
    arb := { holders := [0], queue := [], spacing := none }
    cfg := { State.reset.cfg with
      strands := State.reset.cfg.strands.set 0 { StrandCfg.factory with vmax := 600 }
      plant := { State.reset.cfg.plant with act := State.reset.cfg.plant.act.set 9 .trip } } }

/-- A sample at the level target, with the drive following. -/
def steepSample : Sample :=
  { level := 900, gaugeValid := true, measured := 597, ready := true, barSeated := true, breakout := false }

/-- The setpoint of strand 1 in what a command answers. -/
def firstSpeed : Result → Option Nat
  | .next t => some (ctxOf t 0).speed
  | _ => none

theorem steepRamp_tripped : firstSpeed (exec (.controlPeriod 0 steepSample) steepRamp) = some 0 := by decide

theorem steepSample_sound : soundSample steepRamp 0 steepSample 900 := by decide

/-- Refutes O20: the period is the last of its slot, and the target of the next slot lies above the cap. The cap is recorded
as SPEED_LIMIT, whose action TRIP takes the setpoint to 0, away from the line's point 9600. -/
theorem not_rampStepFollowsTheLine : ¬ Obligations.RampStepFollowsTheLine := by
  intro h
  obtain ⟨t, ht, hspeed, -⟩ := h 0 steepSample 900 steepRamp 0 1 _ steepSlot 9600 rfl steepSample_sound rfl rfl rfl rfl rfl rfl
    (by decide) (by decide) (by decide) (by decide) (by decide)
  have htripped := steepRamp_tripped
  rw [ht] at htripped
  have hzero : (ctxOf t 0).speed = 0 := Option.some.inj htripped
  rw [hzero] at hspeed
  exact absurd hspeed (by decide)

end Sys2Proof.Machine
end

section
/-! PROOF. The reports of a ramp's steps and slot ends, their actions, and restarts under plan F. -/

namespace Sys2Proof.Machine

open Sys2Proof

section Steps

variable {n : Strand} {b : Block} {s : State} {l : Nat}

/-! ## The common steps as arithmetic (R57) -/

theorem commonSteps_speed (cap accel prev : Nat) (y : Int) : ((commonSteps cap accel prev y).speed : Int)
    = max 0 (max ((prev : Int) - accel) (min (prev + accel) (min y cap))) := by
  show ((rateStep accel prev (capStep cap y)).toNat : Int) = _
  have hcap : capStep cap y = min y cap := by
    unfold capStep
    split <;> omega
  rw [hcap]
  generalize min y (cap : Int) = z
  unfold rateStep
  split
  · omega
  · split <;> omega

theorem commonSteps_capped (cap accel prev : Nat) (y : Int) :
    (commonSteps cap accel prev y).capped = decide ((cap : Int) < y) := rfl

theorem commonSteps_clamped (cap accel prev : Nat) (y : Int) : (commonSteps cap accel prev y).clamped
    = decide ((prev : Int) + accel < min y cap ∨ min y cap < (prev : Int) - accel) := by
  show decide (rateStep accel prev (capStep cap y) ≠ capStep cap y) = _
  have hcap : capStep cap y = min y cap := by
    unfold capStep
    split <;> omega
  rw [hcap]
  generalize min y (cap : Int) = z
  refine decide_eq_decide.2 ?_
  unfold rateStep
  split
  · omega
  · split <;> omega

/-- A candidate within the cap that the common steps leave as it is acts on neither limit. -/
theorem commonSteps_free {cap accel prev : Nat} {y : Int} (hc : y ≤ cap)
    (hs : ((commonSteps cap accel prev y).speed : Int) = y) :
    (commonSteps cap accel prev y).capped = false ∧ (commonSteps cap accel prev y).clamped = false := by
  rw [commonSteps_speed] at hs
  rw [commonSteps_capped, commonSteps_clamped]
  exact ⟨decide_eq_false (by omega), decide_eq_false (by omega)⟩

/-- The end of an AUTO slot lies on its target (R61). -/
theorem autoCandidate_end {s0 st k : Nat} (h : 0 < k) : autoCandidate s0 st k k = st := by
  have hk : (k : Int) ≠ 0 := by omega
  rw [autoCandidate, Int.mul_tdiv_cancel _ hk]
  omega

/-! ## The period on a sound sample -/

theorem exec_rampOrCast {x : Sample} (hrun : s.phase = .running) (h : soundSample s n x l) (hst : rampOrCast s n) :
    ∃ b, SoundPart s n x l b ∧ exec (.controlPeriod n x) s
      = .next (laterStages n (readSample x) { st := withPart n b s.arb s.alarm s, cut := false }) := by
  obtain ⟨b, hb, hexec⟩ := exec_sound hrun h
  have htimed : timedStage n (readSample x) (withPart n b s.arb s.alarm s)
      = { st := withPart n b s.arb s.alarm s, cut := false } := by
    rw [timedStage, ctxOf_withPart, hb.state]
    obtain hst | hst := hst <;> rw [hst]
  exact ⟨b, hb, htimed ▸ hexec⟩

theorem speedStage_ramp {a : Arbiter} {al : Bool} (h : b.ctx.state = .ramp) :
    speedStage n (withPart n b a al s) = rampStage n (withPart n b a al s) := by
  rw [speedStage, ctxOf_withPart, h]

theorem speedStage_cast {a : Arbiter} {al : Bool} (h : b.ctx.state = .cast) :
    speedStage n (withPart n b a al s) = castStage n (withPart n b a al s) := by
  rw [speedStage, ctxOf_withPart, h]

theorem stepReports_free {seen : Nat × Option Nat} {m : Limited} (hc : m.capped = false) (hm : m.clamped = false) :
    stepReports s seen m b = [] := by
  rw [stepReports, hc, hm]
  rfl

theorem noted_free {m : Limited} (hc : m.capped = false) (hm : m.clamped = false) : noted m b = b := by
  rw [noted, hc, hm, Bool.or_false, Bool.or_false]

section Free

variable {a : Arbiter} {al : Bool} {seen : Nat × Option Nat} {r : SlotRun} {st : Nat}

/-- What the common steps make of the AUTO candidate of the period `k` of slot `r`. -/
abbrev autoLimited (b : Block) (r : SlotRun) (st : Nat) : Limited := limitedAt b (autoCandidate r.s0 st (r.k + 1) r.n)

/-- An AUTO candidate within the limits (R61). -/
abbrev autoFree (b : Block) (r : SlotRun) (st : Nat) : Prop :=
  r.step = .auto ∧ autoCandidate r.s0 st (r.k + 1) r.n ≤ (b.force.vmax * 16 : Nat)
    ∧ ((autoLimited b r st).speed : Int) = autoCandidate r.s0 st (r.k + 1) r.n

theorem rampCandidate_auto {k prev : Nat} (h : r.step = .auto) :
    rampCandidate { r with k := k } st prev = autoCandidate r.s0 st k r.n := by
  rw [rampCandidate, h]

/-- A step within the limits records nothing (R61, R63). -/
theorem speedStage_free (h : b.sampled = some seen) (hst : b.ctx.state = .ramp) (hr : b.ctx.slot = some r)
    (ht : b.ctx.target = some st) (hk : r.k + 1 ≠ r.n) (hfree : autoFree b r st) :
    speedStage n (withPart n b a al s) = ramped n s a al [] (steppedBlock r (autoLimited b r st) b) := by
  obtain ⟨hauto, hcap, hspeed⟩ := hfree
  obtain ⟨hcapped, hclamped⟩ := commonSteps_free hcap hspeed
  rw [speedStage_ramp hst, rampStage_goesOn h hr ht hk, rampCandidate_auto hauto, stepReports_free hcapped hclamped,
    noted_free hcapped hclamped]

/-- The last step of the last slot within the limits ends on its target and records nothing (R19, R64). -/
theorem speedStage_free_last {q : PlanRef} (h : b.sampled = some seen) (hst : b.ctx.state = .ramp)
    (hr : b.ctx.slot = some r) (ht : b.ctx.target = some st) (hk : r.k + 1 = r.n) (hfree : autoFree b r st)
    (hp : b.ctx.plan = some q) (hi : planCount s q ≤ r.index) :
    (autoLimited b r st).speed = st ∧ speedStage n (withPart n b a al s) = ramped n s (releasedArb n a) al []
      (castBlock (slotUnder s b.force q (planCount s q)).level (steppedBlock r (autoLimited b r st) b)) := by
  obtain ⟨hauto, hcap, hspeed⟩ := hfree
  obtain ⟨hcapped, hclamped⟩ := commonSteps_free hcap hspeed
  have hat : (autoLimited b r st).speed = st := by
    rw [← hk, autoCandidate_end (Nat.succ_pos _)] at hspeed
    exact Int.ofNat.inj hspeed
  have hshort : shortReports s seen (steppedBlock r (autoLimited b r st) b) = [] :=
    if_pos (ht.trans (congrArg some hat.symm))
  refine ⟨hat, ?_⟩
  rw [speedStage_ramp hst, rampStage_ends h hr ht hk, rampCandidate_auto hauto, stepReports_free hcapped hclamped,
    noted_free hcapped hclamped,
    endSlot_last (b := steppedBlock r (autoLimited b r st) b) (r := { r with k := r.k + 1 }) h hst hp hi, hshort]
  rfl

end Free

/-- A period whose stage 4 records nothing acts on nothing. -/
theorem laterStages_unreported {a a' : Arbiter} {al : Bool} {r : Reading} {b' : Block}
    (hspeed : speedStage n (withPart n b a al s) = ramped n s a' al [] b')
    (hst : b'.ctx.state = .ramp ∨ b'.ctx.state = .cast) : ∃ u w i,
    laterStages n r { st := withPart n b a al s, cut := false } = withPart n u a' al s
      ∧ u.log = b'.log ∧ u.ctx = { b'.ctx with stopper := w, integrator := i } := by
  obtain ⟨u, hu, hlog, -, hctx⟩ := laterStages_ramped (r := r) hspeed hst (by simp)
  obtain ⟨w, i, hctx⟩ := hctx (by simp)
  have hacted : actedBlock [] b' = b' := if_neg (by simp)
  rw [List.any_nil, Bool.or_false, List.map_nil, if_neg List.not_mem_nil] at hu
  exact ⟨u, w, i, hu, hlog, hctx.trans (by rw [List.map_nil, hacted])⟩

end Steps

/-! ## Plan F -/

section Fallback

variable {n : Strand} {b : Block} {s : State} {l : Nat}

theorem soundCtx_levelTarget_fallback {g : StrandCfg} {c : Ctx} (hp : c.plan = some .fallback)
    (hst : c.state = .fill ∨ c.state = .waitPermit ∨ c.state = .ramp ∨ (c.state = .held ∧ c.holdReturn ≠ none)) :
    (soundCtx g l c).levelTarget = g.lnorm := by
  refine if_pos ?_
  obtain h | h | h | ⟨h, hr⟩ := hst <;> simp [followsNorm, hp, h]
  exact Option.isSome_iff_ne_none.2 hr

theorem planFill_withPart_fallback {a : Arbiter} {al : Bool} :
    planFill (withPart n b a al s) n .fallback = b.force.lnorm := lnormOf_withPart

/-- The blocks of a state that differs at one strand. -/
theorem strands_eq_set {u : State} (ho : ∀ m : Strand, m ≠ n → u.strands[m] = s.strands[m]) (hn : u.strands[n] = b) :
    u.strands = s.strands.set n b := by
  refine Vector.ext fun i hi => ?_
  by_cases hin : n.val = i
  · subst hin
    rw [Vector.getElem_set_self]
    exact hn
  · rw [Vector.getElem_set_ne _ _ hin]
    exact ho ⟨i, hi⟩ fun e => hin (congrArg Fin.val e).symm

/-- A grant under plan F, its target within the cap (R53, R58, R59). -/
theorem grant_fallback {e : QEntry} {rest : List QEntry} (h : s.phase = .running) (hm : s.mon.state = .normal)
    (hp : s.arb.holders.length < s.cfg.plant.pmax) (hsp : s.arb.spacing = none) (hq : s.arb.queue = e :: rest)
    (hg : 0 < s.cfg.plant.gap) (hw : (ctxOf s e.strand).state = .waitPermit)
    (hplan : (ctxOf s e.strand).plan = some .fallback)
    (hcap : (ctxOf s e.strand).resume.getD (ctxOf s e.strand).speed ≤ s.strands[e.strand].force.vmax * 16) :
    exec .grantEvaluation s = .next { s with
      arb := { holders := addHolder e.strand s.arb.holders, queue := rest, spacing := some (s.cfg.plant.gap * 100) }
      strands := s.strands.set e.strand { s.strands[e.strand] with
        ctx := { ctxOf s e.strand with
          state := .ramp, permit := true, levelTarget := s.strands[e.strand].force.lnorm, rateNoted := false
          limitNoted := false
          slot := some { index := 1, k := 0, s0 := (ctxOf s e.strand).speed, n := 600, step := .auto }
          target := some ((ctxOf s e.strand).resume.getD (ctxOf s e.strand).speed) } } } := by
  obtain ⟨u, hnext, -, hu, hothers, hholders, hwithin, -⟩ :=
    grantStartsTheHeadOfTheQueue s e rest _ h hm hp hsp hq hw (.inr ⟨hplan, rfl⟩)
  have hwithin' : s.strands[e.strand].ctx.resume.getD s.strands[e.strand].ctx.speed
      ≤ s.strands[e.strand].force.vmax * 16 := hcap
  have hfree := Nat.not_lt.2 hwithin'
  have hstrands := strands_eq_set hothers (hwithin hcap)
  rw [hnext hg, hu, hstrands, hholders fun ht => hfree ht.1]
  simp only [decide_eq_false hfree, Bool.false_and, Bool.or_false, if_pos hg, Nat.min_eq_left hwithin']
  rfl

theorem SoundPart.target_fallback {x : Sample} (h : SoundPart s n x l b) (hp : (ctxOf s n).plan = some .fallback)
    (hst : (ctxOf s n).state = .fill ∨ (ctxOf s n).state = .waitPermit ∨ (ctxOf s n).state = .ramp
      ∨ ((ctxOf s n).state = .held ∧ (ctxOf s n).holdReturn ≠ none)) :
    b.ctx.levelTarget = s.cfg.strands[n].lnorm := by
  rw [h.ctx]
  exact soundCtx_levelTarget_fallback hp hst

/-- A period of a restart under plan F that goes on in its state, its level target the LNORM of the period. -/
abbrev goesOnUnderF (s : State) (n : Strand) (x : Sample) (st : StrandState) : Prop :=
  ∃ t, exec (.controlPeriod n x) s = .next t ∧ t = { s with strands := t.strands } ∧ (ctxOf t n).state = st
    ∧ (ctxOf t n).plan = some .fallback ∧ (ctxOf t n).levelTarget = s.cfg.strands[n].lnorm
    ∧ t.strands[n].log = s.strands[n].log

/-- A ramp under plan F, its step within the limits (R61). -/
theorem ramp_goesOnUnderF {x : Sample} {r : SlotRun} {st : Nat} (hrun : s.phase = .running) (h : soundSample s n x l)
    (hp : (ctxOf s n).plan = some .fallback) (hst : (ctxOf s n).state = .ramp) (hr : (ctxOf s n).slot = some r)
    (ht : (ctxOf s n).target = some st) (hk : r.k + 1 < r.n) (hfree : ∀ b, SoundPart s n x l b → autoFree b r st) :
    goesOnUnderF s n x .ramp := by
  obtain ⟨b, hb, hexec⟩ := exec_rampOrCast hrun h (.inl hst)
  have hbst := hb.state.trans hst
  have hstage : speedStage n (withPart n b s.arb s.alarm s) = _ :=
    speedStage_free hb.sampled hbst (hb.slot.trans hr) (hb.target.trans ht) (Nat.ne_of_lt hk) (hfree b hb)
  obtain ⟨u, w, i, hu, hul, huc⟩ := laterStages_unreported (r := readSample x) hstage (.inl hbst)
  refine ⟨_, hexec, ?_⟩
  rw [hu, ctxOf_withPart, withPart_block, huc, hul]
  exact ⟨rfl, hbst, hb.plan.trans hp, hb.target_fallback hp (.inr (.inr (.inl hst))), hb.log⟩

/-- The end of the one slot of plan F (R19, R53). -/
theorem ramp_endsUnderF {x : Sample} {r : SlotRun} {st : Nat} (hrun : s.phase = .running) (h : soundSample s n x l)
    (hp : (ctxOf s n).plan = some .fallback) (hst : (ctxOf s n).state = .ramp) (hr : (ctxOf s n).slot = some r)
    (ht : (ctxOf s n).target = some st) (hk : r.k + 1 = r.n) (hi : 1 ≤ r.index)
    (hfree : ∀ b, SoundPart s n x l b → autoFree b r st) :
    ∃ t, exec (.controlPeriod n x) s = .next t
      ∧ t = { s with strands := t.strands, arb := { s.arb with holders := s.arb.holders.filter (· != n) } }
      ∧ (ctxOf t n).state = .cast ∧ (ctxOf t n).speed = st ∧ (ctxOf t n).target = some st ∧ (ctxOf t n).plan = none
      ∧ (ctxOf t n).levelTarget = s.cfg.strands[n].lnorm ∧ t.strands[n].log = s.strands[n].log := by
  obtain ⟨b, hb, hexec⟩ := exec_rampOrCast hrun h (.inl hst)
  obtain ⟨hat, hstage⟩ := speedStage_free_last (n := n) (a := s.arb) (al := s.alarm) (s := s) hb.sampled
    (hb.state.trans hst) (hb.slot.trans hr) (hb.target.trans ht) hk (hfree b hb) (hb.plan.trans hp) hi
  obtain ⟨u, w, i, hu, hul, huc⟩ := laterStages_unreported (r := readSample x) hstage (.inr rfl)
  refine ⟨_, hexec, ?_⟩
  rw [hu, ctxOf_withPart, withPart_block, huc, hul]
  exact ⟨rfl, rfl, hat, hb.target.trans ht, rfl, congrArg StrandCfg.lnorm hb.force, hb.log⟩

/-- A state in which the setpoint stands goes on under plan F (R82). -/
theorem stands_goesOnUnderF {x : Sample} {st : StrandState} {d : Block}
    (hexec : exec (.controlPeriod n x) s = .next (laterStages n (readSample x)
      (timedStage n (readSample x) (withPart n b s.arb s.alarm s))))
    (htimed : timedStage n (readSample x) (withPart n b s.arb s.alarm s)
      = { st := withPart n d s.arb s.alarm s, cut := false })
    (hst : stands st) (hds : d.ctx.state = st) (hdp : d.ctx.plan = some .fallback)
    (hdt : d.ctx.levelTarget = s.cfg.strands[n].lnorm) (hdl : d.log = s.strands[n].log) : goesOnUnderF s n x st := by
  obtain ⟨u, v, w, i, hu, huc, hul⟩ := laterStages_stands (r := readSample x) htimed (hds.symm ▸ hst)
  refine ⟨_, hexec, ?_⟩
  rw [hu, ctxOf_withPart, withPart_block, huc, hul]
  exact ⟨rfl, hds, hdp, hdt, hdl⟩

/-- FILL and WAIT_PERMIT go on under plan F before their limit, and once it is noted (R14, R16). -/
theorem counts_goesOnUnderF {x : Sample} {k : Kind} {limit : Nat} (hb : SoundPart s n x l b)
    (hexec : exec (.controlPeriod n x) s = .next (laterStages n (readSample x)
      (timedStage n (readSample x) (withPart n b s.arb s.alarm s))))
    (htimed : timedStage n (readSample x) (withPart n b s.arb s.alarm s)
      = timeoutTest n k limit (withPart n b s.arb s.alarm s))
    (hp : (ctxOf s n).plan = some .fallback) (hst : (ctxOf s n).state = .fill ∨ (ctxOf s n).state = .waitPermit)
    (ht : (ctxOf s n).timeoutNoted = true ∨ (ctxOf s n).timer + 1 < limit) :
    goesOnUnderF s n x (ctxOf s n).state := by
  have hstands : stands (ctxOf s n).state := hst.imp_right fun h => .inr (.inl h)
  have htarget := hb.target_fallback hp (hst.imp_right .inl)
  cases hnoted : (ctxOf s n).timeoutNoted with
  | true =>
    exact stands_goesOnUnderF hexec (htimed.trans (timeoutTest_noted (hb.timeoutNoted.trans hnoted))) hstands hb.state
      (hb.plan.trans hp) htarget hb.log
  | false =>
    have hlt : b.ctx.timer + 1 < limit := hb.timer ▸ ht.resolve_left (by simp [hnoted])
    exact stands_goesOnUnderF (d := laterBlock b) hexec
      (htimed.trans (timeoutTest_before (hb.timeoutNoted.trans hnoted) hlt)) hstands hb.state (hb.plan.trans hp) htarget
      hb.log

/-- FILL at LNORM enters WAIT_PERMIT under plan F, which has no dwell (R16, R53). -/
theorem fill_endsUnderF {x : Sample} (hrun : s.phase = .running) (hsound : soundSample s n x l)
    (hp : (ctxOf s n).plan = some .fallback) (hst : (ctxOf s n).state = .fill) (hle : s.cfg.strands[n].lnorm ≤ l) :
    ∃ t, exec (.controlPeriod n x) s = .next t
      ∧ t = { s with
          strands := t.strands
          arb := { s.arb with
            queue := place { strand := n, cls := classOf (ctxOf s n).kind, time := s.store.time } s.arb.queue } }
      ∧ (ctxOf t n).state = .waitPermit ∧ (ctxOf t n).timer = 0 ∧ (ctxOf t n).timeoutNoted = false
      ∧ (ctxOf t n).plan = some .fallback ∧ (ctxOf t n).levelTarget = s.cfg.strands[n].lnorm
      ∧ t.strands[n].log = s.strands[n].log := by
  obtain ⟨b, hb, hexec⟩ := exec_sound hrun hsound
  have htimed : timedStage n (readSample x) (withPart n b s.arb s.alarm s)
      = fillStage n (readSample x) (withPart n b s.arb s.alarm s) := by
    rw [timedStage, ctxOf_withPart, hb.state.trans hst]
  have hfill : fillStage n (readSample x) (withPart n b s.arb s.alarm s) = _ :=
    fillStage_wait (readSample_valid hsound.1) (hb.plan.trans hp) (by rwa [planFill_withPart_fallback, hb.force]) rfl
  obtain ⟨u, v, w, i, hu, huc, hul⟩ := laterStages_stands (r := readSample x) (htimed.trans hfill) (.inr (.inr (.inl rfl)))
  refine ⟨_, hexec, ?_⟩
  rw [hu, ctxOf_withPart, withPart_block, huc, hul, enqueuedArb, hb.kind]
  refine ⟨rfl, rfl, rfl, rfl, hb.plan.trans hp, ?_, hb.log⟩
  show (planSlot (withPart n b s.arb s.alarm s) n .fallback 1).level = _
  rw [planSlot_withPart_fallback, hb.force]

/-- Settles O26. -/
theorem restartsUnderPlanF : Obligations.RestartsUnderPlanF := by
  constructor
  · intro n x l s hrun hsound hplan c lnorm goesOn
    obtain ⟨b, hb, hexec⟩ := exec_sound hrun hsound
    refine ⟨fun hst hlt ht => ?_, fun hst hle => fill_endsUnderF hrun hsound hplan hst hle, fun hst ht => ?_,
      fun hst hr => ?_, fun hst r st hslot htarget hauto hk hi hcap hlimited => ?_⟩
    · refine hst ▸ counts_goesOnUnderF (k := .fillTimeout) hb hexec ?_ hplan (.inl hst) ht
      rw [timedStage, ctxOf_withPart, hb.state.trans hst, ← hb.force]
      exact fillStage_below (readSample_valid hsound.1) (hb.plan.trans hplan)
        (by rwa [planFill_withPart_fallback, hb.force])
    · refine hst ▸ counts_goesOnUnderF (k := .permitWait) hb hexec ?_ hplan (.inr hst) ht
      rw [timedStage, ctxOf_withPart, hb.state.trans hst, ← hb.force, withPart_block]
    · refine stands_goesOnUnderF hexec ?_ (.inr (.inr (.inr rfl))) (hb.state.trans hst) (hb.plan.trans hplan)
        (hb.target_fallback hplan (.inr (.inr (.inr ⟨hst, hr⟩)))) hb.log
      rw [timedStage, ctxOf_withPart, hb.state.trans hst]
    · have hfree (d : Block) (hd : SoundPart s n x l d) : autoFree d r st := by
        refine ⟨hauto, by rw [hd.force]; exact hcap, ?_⟩
        rw [commonSteps_speed, hd.speed, hd.force]
        exact hlimited
      exact ⟨fun hlt => ramp_goesOnUnderF hrun hsound hplan hst hslot htarget hlt hfree,
        fun hend => ramp_endsUnderF hrun hsound hplan hst hslot htarget hend hi hfree⟩
  · intro s e rest h hm hp hsp hq hg hw hplan hcap
    exact grant_fallback h hm hp hsp hq hg hw hplan hcap

end Fallback

end Sys2Proof.Machine
end

section
/-! PROOF. The deviations of stage 4 and their actions. -/

namespace Sys2Proof.Machine

open Sys2Proof

section Deviations

variable {n : Strand} {b : Block} {s : State} {x : Sample} {l : Nat} {seen : Nat × Option Nat} {y : Int} {r : SlotRun}
  {st : Nat}

/-- Whether an action is among those steered for the kinds recorded. -/
theorem steered_iff {c : Cfg} {act : Action} {rs : List StrandRec} :
    ((rs.map StrandRec.kind).any fun k => decide (actionOf c k = act)) = true
      ↔ act ∈ rs.map fun q => actionOf c q.kind := by
  simp

theorem actedBlock_ramp {as : List Action} (h : b.ctx.state = .ramp) : (actedBlock as b).ctx = { b.ctx with
    state := if .hold ∈ as then .held else .ramp
    holdReturn := if .hold ∈ as then some .ramp else b.ctx.holdReturn
    lag := if .hold ∈ as then 0 else b.ctx.lag } := by
  unfold actedBlock
  by_cases hh : .hold ∈ as
  · simp only [if_pos hh, if_pos (And.intro h hh)]
    rfl
  · simp only [if_neg hh, if_neg (mt And.right hh), ← h]

theorem actedBlock_speed (as : List Action) (b : Block) : (actedBlock as b).ctx.speed = b.ctx.speed := by
  unfold actedBlock
  split <;> rfl

theorem actedBlock_cast {as : List Action} (h : b.ctx.state = .cast) : actedBlock as b = b :=
  if_neg (by simp [h])

/-- The kinds a step reports (R63, R66). -/
def stepKinds (l : Limited) (c : Ctx) : List Kind :=
  (if l.capped ∧ c.limitNoted = false then [.speedLimit] else [])
    ++ (if l.clamped ∧ c.rateNoted = false then [.rateClamp] else [])

theorem stepKinds_steered {m : Limited} {c : Ctx} {k : Kind} (h : k ∈ stepKinds m c) : k ≠ .changeOverrun := by
  rintro rfl
  unfold stepKinds at h
  split at h <;> split at h <;> simp at h

theorem arbAfter_cast {c : Ctx} {a : Arbiter} (h : c.state = .cast) : arbAfter n c .tripped a = a := by
  simp [arbAfter, givesBack, leavesQueue, h]

theorem reportsOf_eq {acts noted : Bool} {f : Kind → StrandRec} {k : Kind} :
    reportsOf acts noted (f k) = (if acts ∧ noted = false then [k] else []).map f := by
  cases acts <;> cases noted <;> rfl

theorem stepReports_eq (m : Limited) :
    stepReports s seen m b = (stepKinds m b.ctx).map (blockRecord s.cfg s.store.time seen b) := by
  rw [stepReports, reportsOf_eq (f := blockRecord s.cfg s.store.time seen b),
    reportsOf_eq (f := blockRecord s.cfg s.store.time seen b), stepKinds, List.map_append]

theorem shortReports_eq : shortReports s seen b
    = (if b.ctx.target = some b.ctx.speed then [] else [.rampShort]).map (blockRecord s.cfg s.store.time seen b) := by
  unfold shortReports
  split <;> rfl

/-! ## The words of O25 -/

/-- The cap acts on candidate `y` (R57, R63). -/
abbrev capActs (s : State) (n : Strand) (y : Int) : Bool := decide (((s.cfg.strands[n].vmax * 16 : Nat) : Int) < y)

/-- The rate limit acts on candidate `y` (R57, R63). -/
abbrev rateActs (s : State) (n : Strand) (y : Int) : Bool :=
  decide ((ctxOf s n).speed + ((s.cfg.strands[n].amax * 16 : Nat) : Int) < min y (s.cfg.strands[n].vmax * 16 : Nat)
    ∨ min y (s.cfg.strands[n].vmax * 16 : Nat) < (ctxOf s n).speed - ((s.cfg.strands[n].amax * 16 : Nat) : Int))

/-- What a step toward candidate `y` reports (R63, R66). -/
abbrev reportedAt (s : State) (n : Strand) (y : Int) : List Kind :=
  (if capActs s n y ∧ (ctxOf s n).limitNoted = false then [.speedLimit] else [])
    ++ (if rateActs s n y ∧ (ctxOf s n).rateNoted = false then [.rateClamp] else [])

/-- A record of stage 4: the strand as it stood, with its new setpoint. -/
abbrev stageRecord (s : State) (n : Strand) (x : Sample) (y : Int) (k : Kind) : StrandRec :=
  { periodRecord s n x k with speedOut := ((limitedSpeed s n y).toNat + 8) / 16 }

/-- Whether an action is steered for one of the kinds. -/
abbrev steers (s : State) (act : Action) (ks : List Kind) : Bool := ks.any fun k => actionOf s.cfg k = act

/-- The period's answer: its records and the arbiter it leaves, a trip where one is steered, and else the setpoint of
candidate `y` and `ok`. -/
abbrev stageAnswers (s : State) (n : Strand) (x : Sample) (y : Int) (records : List StrandRec) (arb : Arbiter)
    (ok : State → Prop) : Prop :=
  ∃ t, exec (.controlPeriod n x) s = .next t
    ∧ t = { s with strands := t.strands, alarm := s.alarm || records.any StrandRec.mark, arb := arb }
    ∧ t.strands[n].log = records.foldl (fun g q => logRecord g q q.kind q.mark) s.strands[n].log
    ∧ (steers s .trip (records.map StrandRec.kind) = true →
        (ctxOf t n).state = .tripped ∧ t.strands[n].outTrip = true)
    ∧ (steers s .trip (records.map StrandRec.kind) = false → ((ctxOf t n).speed : Int) = limitedSpeed s n y ∧ ok t)

/-- A ramp that goes on, unless a HOLD is steered (R148). -/
abbrev staysRamp (s : State) (n : Strand) (t : State) (ks : List Kind) : Prop :=
  (ctxOf t n).state = (if steers s .hold ks then .held else .ramp)
    ∧ (steers s .hold ks = true → (ctxOf t n).holdReturn = some .ramp)

theorem stageRecord_kinds (ks : List Kind) : (ks.map (stageRecord s n x y)).map StrandRec.kind = ks := by
  rw [List.map_map]
  exact List.map_id ks

/-! ## The sound part in stage 4 -/

theorem SoundPart.limited (h : SoundPart s n x l b) (y : Int) : ((limitedAt b y).speed : Int) = limitedSpeed s n y := by
  rw [commonSteps_speed, h.speed, h.force]

theorem SoundPart.toNat (h : SoundPart s n x l b) (y : Int) : (limitedSpeed s n y).toNat = (limitedAt b y).speed := by
  rw [← h.limited]
  rfl

theorem SoundPart.capped (h : SoundPart s n x l b) (y : Int) : (limitedAt b y).capped = capActs s n y := by
  rw [commonSteps_capped, h.force]

theorem SoundPart.clamped (h : SoundPart s n x l b) (y : Int) : (limitedAt b y).clamped = rateActs s n y := by
  rw [commonSteps_clamped, h.speed, h.force]

theorem SoundPart.limitNoted (h : SoundPart s n x l b) : b.ctx.limitNoted = (ctxOf s n).limitNoted := by rw [h.ctx]; rfl
theorem SoundPart.rateNoted (h : SoundPart s n x l b) : b.ctx.rateNoted = (ctxOf s n).rateNoted := by rw [h.ctx]; rfl

theorem SoundPart.kinds (h : SoundPart s n x l b) (y : Int) : stepKinds (limitedAt b y) b.ctx = reportedAt s n y := by
  rw [stepKinds, h.capped, h.clamped, h.limitNoted, h.rateNoted]

/-- The records of stage 4 show the strand as it stood but for the setpoint (R156). -/
theorem SoundPart.record (h : SoundPart s n x l b) {d : Block} {sl : Option SlotRun} {li ra : Bool}
    (hd : d.ctx = { b.ctx with speed := (limitedAt b y).speed, slot := sl, limitNoted := li, rateNoted := ra })
    (hsl : sl.map SlotRun.index = (ctxOf s n).slot.map SlotRun.index) :
    blockRecord s.cfg s.store.time (min x.measured 8000, validLevel x) d = stageRecord s n x y := by
  funext k
  rw [blockRecord, hd]
  dsimp only [stageRecord]
  rw [hsl, h.toNat, h.ctx]
  rfl

/-- A period in RAMP or CAST from what its stage 4 leaves. -/
theorem SoundPart.answers (hb : SoundPart s n x l b) {records : List StrandRec} {a' arb : Arbiter} {d : Block}
    {ok : State → Prop}
    (hexec : exec (.controlPeriod n x) s
      = .next (laterStages n (readSample x) { st := withPart n b s.arb s.alarm s, cut := false }))
    (hstage : speedStage n (withPart n b s.arb s.alarm s) = ramped n s a' s.alarm records d)
    (hst : d.ctx.state = .ramp ∨ d.ctx.state = .cast) (hk : ∀ k ∈ records.map StrandRec.kind, k ≠ .changeOverrun)
    (hl : d.log = b.log) (hv : d.ctx.speed = (limitedAt b y).speed)
    (harb : arb = if steers s .trip (records.map StrandRec.kind) then arbAfter n d.ctx .tripped a' else a')
    (hok : ∀ t w i, ctxOf t n = { (actedBlock (records.map fun q => actionOf s.cfg q.kind) d).ctx with
      stopper := w, integrator := i } → ok t) : stageAnswers s n x y records arb ok := by
  have htrips : steers s .trip (records.map StrandRec.kind) = true ↔ .trip ∈ records.map fun q => actionOf s.cfg q.kind :=
    steered_iff
  obtain ⟨u, hu, hul, hut, huq⟩ := laterStages_ramped (r := readSample x) hstage hst fun q hq =>
    hk _ (List.mem_map_of_mem hq)
  refine ⟨_, hexec, ?_⟩
  rw [hu, harb, ctxOf_withPart, withPart_block]
  refine ⟨?_, by rw [hul, withRecords, hl, hb.log], fun ht => hut (htrips.1 ht), fun ht => ?_⟩
  · simp only [← htrips]
    rfl
  · obtain ⟨w, i, huc⟩ := huq (mt htrips.2 (Bool.eq_false_iff.1 ht))
    refine ⟨?_, hok _ w i (ctxOf_withPart.trans huc)⟩
    rw [huc, ← hb.limited, ← hv]
    exact congrArg Nat.cast (actedBlock_speed _ d)

theorem reportedAt_steered (hb : SoundPart s n x l b) {k : Kind} (h : k ∈ reportedAt s n y) : k ≠ .changeOverrun :=
  stepKinds_steered (hb.kinds y ▸ h)

/-! ## CAST -/

/-- A period in CAST (R66). -/
theorem cast_answers (hrun : s.phase = .running) (hsound : soundSample s n x l) (ht : (ctxOf s n).target = some st)
    (hst : (ctxOf s n).state = .cast) :
    stageAnswers s n x st ((reportedAt s n st).map (stageRecord s n x st)) s.arb fun t =>
      (ctxOf t n).state = .cast ∧ (ctxOf t n).target = some st
        ∧ (ctxOf t n).limitNoted = ((ctxOf s n).limitNoted || capActs s n st)
        ∧ (ctxOf t n).rateNoted = ((ctxOf s n).rateNoted || rateActs s n st) := by
  obtain ⟨b, hb, hexec⟩ := exec_rampOrCast hrun hsound (.inr hst)
  have hbst := hb.state.trans hst
  have hbtarget := hb.target.trans ht
  have hrecord : blockRecord s.cfg s.store.time (min x.measured 8000, validLevel x) (movedBlock (limitedAt b st) b)
      = stageRecord s n x st :=
    hb.record (sl := b.ctx.slot) (li := b.ctx.limitNoted) (ra := b.ctx.rateNoted) rfl (by rw [hb.slot])
  have hstage : speedStage n (withPart n b s.arb s.alarm s) = ramped n s s.arb s.alarm
      ((reportedAt s n st).map (stageRecord s n x st)) (noted (limitedAt b st) (movedBlock (limitedAt b st) b)) := by
    rw [speedStage_cast hbst, castStage_part hb.sampled hbtarget, stepReports_eq, hrecord, ← hb.kinds]
    rfl
  refine hb.answers hexec hstage (.inr hbst) ?_ rfl rfl ?_ fun t w i hctx => ?_
  · rw [stageRecord_kinds]
    exact fun k hk => reportedAt_steered hb hk
  · rw [arbAfter_cast (c := (noted (limitedAt b st) (movedBlock (limitedAt b st) b)).ctx) hbst, ite_self]
  · rw [hctx, actedBlock_cast (b := noted (limitedAt b st) (movedBlock (limitedAt b st) b)) hbst, ← hb.capped, ← hb.clamped, ← hb.limitNoted, ← hb.rateNoted]
    exact ⟨hbst, hbtarget, rfl, rfl⟩

/-! ## RAMP -/

/-- The block of a ramp once its step toward candidate `y` has been reported. -/
abbrev rampedBlock (r : SlotRun) (y : Int) (b : Block) : Block :=
  noted (limitedAt b y) (steppedBlock r (limitedAt b y) b)

theorem staysRamp_of {t : State} {w : Nat} {i : Int} {d : Block} {records : List StrandRec} {ks : List Kind}
    (ht : ctxOf t n = { (actedBlock (records.map fun q => actionOf s.cfg q.kind) d).ctx with
      stopper := w, integrator := i })
    (hst : d.ctx.state = .ramp) (hks : records.map StrandRec.kind = ks) : staysRamp s n t ks := by
  have hholds : steers s .hold ks = true ↔ .hold ∈ records.map fun q => actionOf s.cfg q.kind := hks ▸ steered_iff
  rw [actedBlock_ramp hst] at ht
  refine ⟨?_, fun hh => ?_⟩
  · simp only [ht, hholds]
  · rw [ht]
    exact if_pos (hholds.1 hh)

/-- A ramp and its candidate `y`, as stage 4 finds them (R61, R62). -/
structure RampPart (s : State) (n : Strand) (x : Sample) (l : Nat) (r : SlotRun) (st : Nat) (y : Int) (b : Block) :
    Prop where
  sound     : SoundPart s n x l b
  exec      : exec (.controlPeriod n x) s
    = .next (laterStages n (readSample x) { st := withPart n b s.arb s.alarm s, cut := false })
  state     : b.ctx.state = .ramp
  slot      : b.ctx.slot = some r
  target    : b.ctx.target = some st
  candidate : rampCandidate { r with k := r.k + 1 } st b.ctx.speed = y

section RampPart

variable (h : RampPart s n x l r st y b)
include h

theorem RampPart.record_ramped : blockRecord s.cfg s.store.time (min x.measured 8000, validLevel x) (rampedBlock r y b)
    = stageRecord s n x y :=
  h.sound.record (sl := some { r with k := r.k + 1 }) rfl (by rw [← h.sound.slot, h.slot]; rfl)

theorem RampPart.reports : stepReports s (min x.measured 8000, validLevel x) (limitedAt b y)
    (steppedBlock r (limitedAt b y) b) = (reportedAt s n y).map (stageRecord s n x y) := by
  have hrecord : blockRecord s.cfg s.store.time (min x.measured 8000, validLevel x)
      (steppedBlock r (limitedAt b y) b) = stageRecord s n x y := h.record_ramped
  rw [stepReports_eq, hrecord, ← h.sound.kinds]
  rfl

/-- The kinds of a step that ends its slot (R63, R64). -/
abbrev endKinds (s : State) (n : Strand) (y : Int) (st : Nat) : List Kind :=
  reportedAt s n y ++ if limitedSpeed s n y = st then [] else [.rampShort]

omit h in
theorem endKinds_steered (hb : SoundPart s n x l b) {k : Kind} (hk : k ∈ endKinds s n y st) : k ≠ .changeOverrun := by
  obtain hk | hk := List.mem_append.1 hk
  · exact reportedAt_steered hb hk
  · rintro rfl
    split at hk <;> simp at hk

theorem RampPart.endReports : (reportedAt s n y).map (stageRecord s n x y)
    ++ shortReports s (min x.measured 8000, validLevel x) (rampedBlock r y b)
      = (endKinds s n y st).map (stageRecord s n x y) := by
  have hat : (rampedBlock r y b).ctx.target = some (rampedBlock r y b).ctx.speed ↔ limitedSpeed s n y = st := by
    show b.ctx.target = some (limitedAt b y).speed ↔ _
    rw [h.target, ← h.sound.limited, Option.some.injEq, Nat.cast_inj, eq_comm]
  rw [shortReports_eq, h.record_ramped, ← List.map_append]
  simp only [hat]

/-- A ramp step before the end of its slot (R61 to R63). -/
theorem RampPart.goesOn_answers (hk : r.k + 1 < r.n) :
    stageAnswers s n x y ((reportedAt s n y).map (stageRecord s n x y))
      (if steers s .trip (reportedAt s n y) then releasedArb n s.arb else s.arb) fun t =>
        staysRamp s n t (reportedAt s n y) ∧ (ctxOf t n).slot = some { r with k := r.k + 1 }
          ∧ (ctxOf t n).target = some st
          ∧ (ctxOf t n).limitNoted = ((ctxOf s n).limitNoted || capActs s n y)
          ∧ (ctxOf t n).rateNoted = ((ctxOf s n).rateNoted || rateActs s n y) := by
  have hstage : speedStage n (withPart n b s.arb s.alarm s) = ramped n s s.arb s.alarm
      ((reportedAt s n y).map (stageRecord s n x y)) (rampedBlock r y b) := by
    rw [speedStage_ramp h.state, rampStage_goesOn h.sound.sampled h.slot h.target (Nat.ne_of_lt hk), h.candidate, h.reports]
  refine h.sound.answers h.exec hstage (.inl h.state) ?_ rfl rfl ?_ fun t w i ht => ?_
  · rw [stageRecord_kinds]
    exact fun k hk => reportedAt_steered h.sound hk
  · rw [stageRecord_kinds, arbAfter_ramp_tripped (c := (rampedBlock r y b).ctx) h.state]
  · refine ⟨staysRamp_of ht h.state (stageRecord_kinds _), ?_⟩
    rw [ht, actedBlock_ramp (b := rampedBlock r y b) h.state, ← h.sound.capped, ← h.sound.clamped, ← h.sound.limitNoted, ← h.sound.rateNoted]
    exact ⟨rfl, h.target, rfl, rfl⟩

/-- A ramp step that ends its slot in a next one (R19, R59, R60, R64). -/
theorem RampPart.next_answers {p : PlanNo} {rev : Nat} {hd : Header} {z : Slot} {sought : Nat}
    (hp : (ctxOf s n).plan = some (.plan p rev)) (hh : s.plans[p].header = some hd) (hk : r.k + 1 = r.n)
    (hi : r.index < hd.count) (hz : s.plans[p].slots[r.index]? = some (some z))
    (hsought : soughtBy (rampedBlock r y b) z = sought) :
    let above : Bool := decide (s.cfg.strands[n].vmax * 16 < sought)
    let all : List Kind := endKinds s n y st ++ if above then [.speedLimit] else []
    stageAnswers s n x y
      ((endKinds s n y st).map (stageRecord s n x y)
        ++ if above then [{ stageRecord s n x y .speedLimit with slot := some (r.index + 1) }] else [])
      (if steers s .trip all then releasedArb n s.arb else s.arb) fun t =>
        staysRamp s n t all ∧ (ctxOf t n).target = some (min sought (s.cfg.strands[n].vmax * 16))
          ∧ (ctxOf t n).levelTarget = z.level ∧ (ctxOf t n).limitNoted = above ∧ (ctxOf t n).rateNoted = false
          ∧ (ctxOf t n).slot = some
              { index := r.index + 1, k := 0, s0 := (limitedSpeed s n y).toNat, n := 2 * z.duration, step := z.step } := by
  intro above all
  have hforce : (rampedBlock r y b).force = s.cfg.strands[n] := h.sound.force
  have hnext : nextReports s (min x.measured 8000, validLevel x) (r.index + 1) z (rampedBlock r y b)
      = if above then [{ stageRecord s n x y .speedLimit with slot := some (r.index + 1) }] else [] := by
    have hslot : blockRecord s.cfg s.store.time (min x.measured 8000, validLevel x)
        (slotStarted (r.index + 1) z (rampedBlock r y b)) .speedLimit
        = { stageRecord s n x y .speedLimit with slot := some (r.index + 1) } := by
      rw [← h.record_ramped]
      rfl
    rw [nextReports, hslot, hsought, hforce]
    simp only [above, decide_eq_true_eq]
  have hstage : speedStage n (withPart n b s.arb s.alarm s) = ramped n s s.arb s.alarm
      ((endKinds s n y st).map (stageRecord s n x y)
        ++ if above then [{ stageRecord s n x y .speedLimit with slot := some (r.index + 1) }] else [])
      (slotStarted (r.index + 1) z (rampedBlock r y b)) := by
    rw [speedStage_ramp h.state, rampStage_ends h.sound.sampled h.slot h.target hk, h.candidate, h.reports,
      endSlot_next (b := rampedBlock r y b) (r := { r with k := r.k + 1 }) h.sound.sampled (h.sound.plan.trans hp) ?_
        (slotOf_eq hz), hnext, h.endReports]
    rw [planCount, headerOf_eq hh]
    exact hi
  have hall : ((endKinds s n y st).map (stageRecord s n x y)
      ++ if above then [{ stageRecord s n x y .speedLimit with slot := some (r.index + 1) }] else []).map StrandRec.kind
      = all := by
    rw [List.map_append, stageRecord_kinds]
    show _ = endKinds s n y st ++ if above then [.speedLimit] else []
    split <;> rfl
  have hst : (slotStarted (r.index + 1) z (rampedBlock r y b)).ctx.state = .ramp := h.state
  refine h.sound.answers h.exec hstage (.inl hst) ?_ rfl rfl ?_ fun t w i ht => ?_
  · rw [hall]
    intro k hk
    obtain hk | hk := List.mem_append.1 hk
    · exact endKinds_steered h.sound hk
    · rintro rfl
      split at hk <;> simp at hk
  · rw [hall, arbAfter_ramp_tripped hst]
  · refine ⟨staysRamp_of ht hst hall, ?_⟩
    rw [ht, actedBlock_ramp hst, h.sound.toNat]
    refine ⟨?_, rfl, ?_, rfl, rfl⟩
    · show some (min (soughtBy (rampedBlock r y b) z) ((rampedBlock r y b).force.vmax * 16)) = _
      rw [hsought, hforce]
    · show decide (soughtBy (rampedBlock r y b) z > (rampedBlock r y b).force.vmax * 16) = _
      rw [hsought, hforce]

/-- A ramp step that ends the last slot (R19, R64). -/
theorem RampPart.last_answers {p : PlanNo} {rev : Nat} {hd : Header} (hp : (ctxOf s n).plan = some (.plan p rev))
    (hh : s.plans[p].header = some hd) (hk : r.k + 1 = r.n) (hi : hd.count ≤ r.index) :
    stageAnswers s n x y ((endKinds s n y st).map (stageRecord s n x y)) (releasedArb n s.arb) fun t =>
      (ctxOf t n).state = .cast ∧ (ctxOf t n).target = some st ∧ (ctxOf t n).slot = none
        ∧ (ctxOf t n).limitNoted = false ∧ (ctxOf t n).rateNoted = false := by
  have hstage : speedStage n (withPart n b s.arb s.alarm s) = ramped n s (releasedArb n s.arb) s.alarm
      ((endKinds s n y st).map (stageRecord s n x y))
      (castBlock (slotUnder s b.force (.plan p rev) (planCount s (.plan p rev))).level (rampedBlock r y b)) := by
    rw [speedStage_ramp h.state, rampStage_ends h.sound.sampled h.slot h.target hk, h.candidate, h.reports,
      endSlot_last (b := rampedBlock r y b) (r := { r with k := r.k + 1 }) h.sound.sampled h.state (h.sound.plan.trans hp)
        ?_, h.endReports]
    · rfl
    · rw [planCount, headerOf_eq hh]
      exact hi
  refine h.sound.answers h.exec hstage (.inr rfl) ?_ rfl rfl ?_ fun t w i ht => ?_
  · rw [stageRecord_kinds]
    exact fun k hk => endKinds_steered h.sound hk
  · rw [arbAfter_cast rfl, ite_self]
  · rw [ht, actedBlock_cast rfl]
    exact ⟨rfl, h.target, rfl, rfl, rfl⟩

end RampPart

/-- Settles O25. -/
theorem rampDeviationsActAfterTheStage : Obligations.RampDeviationsActAfterTheStage := by
  intro n x l s st hrun hsound ht
  refine ⟨fun hst => cast_answers hrun hsound ht hst, fun hst p rev hd r hp hh hr hk => ?_⟩
  intro y
  obtain ⟨b, hb, hexec⟩ := exec_rampOrCast hrun hsound (.inl hst)
  have hy : rampCandidate { r with k := r.k + 1 } st b.ctx.speed = y := by
    rw [hb.speed]
    rfl
  have h : RampPart s n x l r st y b :=
    ⟨hb, hexec, hb.state.trans hst, hb.slot.trans hr, hb.target.trans ht, hy⟩
  refine ⟨fun hlt => h.goesOn_answers hlt, fun hend hi z hz => h.next_answers hp hh hend hi hz ?_,
    fun hend hi => h.last_answers hp hh hend hi⟩
  show resolveTarget (rampedBlock r y b).ctx z.target = _
  cases z.target with
  | speed v => rfl
  | resume =>
    show b.ctx.resume.getD (limitedAt b y).speed = (ctxOf s n).resume.getD (limitedSpeed s n y).toNat
    rw [hb.resume, hb.toNat]

end Deviations

end Sys2Proof.Machine
end

section
/-! PROOF. A control period as a whole: what it leaves of its strand whatever its stages find. -/

namespace Sys2Proof.Machine

open Sys2Proof

section Whole

variable {n : Strand} {b : Block} {a : Arbiter} {al : Bool} {s w : State} {r : Reading} {c d : Ctx}

theorem periodOn_only (n : Strand) (r : Reading) (s : State) : StrandOnly n s (periodOn n r s) := by
  unfold periodOn
  refine unlessCut_only n s (fun u => closePeriod_only n u r) <| unlessCut_only n s (fun u => rampAndActions_only n u) <|
    unlessCut_only n s (fun u => timedStage_only n u r) ?_
  exact (openPeriod_only n s r).trans (checks_only n _ r _)

/-! ## Settings and sample of the period -/

/-- The block holds the settings `g` and the sample of `r`. -/
abbrev samples (g : StrandCfg) (r : Reading) (b : Block) : Prop := b.force = g ∧ b.sampled = some (r.measured, r.level)

theorem StageMove.samples {g : StrandCfg} {b b' : Block} (h : StageMove b b') (hq : samples g r b) : samples g r b' := by
  cases h <;> exact hq

theorem StrandRun.samples {g : StrandCfg} {t : State} (h : StrandRun StageMove n s t) (hq : samples g r s.strands[n]) :
    samples g r t.strands[n] :=
  h.keeps (fun _ _ hm => hm.samples) (fun _ _ hq => hq) hq

theorem SpeedStep.samples {g : StrandCfg} {t : State} (h : SpeedStep n s t) (hq : samples g r s.strands[n]) :
    samples g r t.strands[n] := by
  obtain rfl | ⟨y, slot, -, -, -, -, rfl⟩ := h
  · exact hq
  · rw [mapCtx_block]
    exact hq

/-! ## The context, the setpoint apart -/

/-- Changes other than the setpoint's compose with a setpoint held at any value. -/
theorem Steady.atSpeed (h : Steady c d) (v : Nat) : Steady { c with speed := v } { d with speed := v } :=
  ⟨h.history, h.extremes, h.loop, h.idle, h.target, h.tripped, h.down, h.frozen, fun _ => rfl⟩

theorem Steady.toSpeed (h : Steady c d) : Steady { c with speed := d.speed } d :=
  ⟨h.history, h.extremes, h.loop, h.idle, h.target, h.tripped, h.down, h.frozen, fun _ => rfl⟩

theorem SpeedStep.steady {t : State} (h : SpeedStep n s t) :
    Steady { ctxOf s n with speed := (ctxOf t n).speed } (ctxOf t n) := by
  obtain rfl | ⟨y, slot, -, -, -, -, rfl⟩ := h
  · exact .refl _
  · rw [ctxOf_mapCtx]
    exact ⟨rfl, rfl, .inl ⟨rfl, rfl, rfl⟩, .rfl, fun _ => rfl, id, .inl, .inl, fun _ => rfl⟩

/-- One move of the setpoint: at most the acceleration limit, and none in FROZEN (R57, R70). -/
theorem SpeedStep.bounds {t : State} (h : SpeedStep n s t) :
    (ctxOf t n).speed ≤ (ctxOf s n).speed + s.strands[n].force.amax * 16
      ∧ (ctxOf s n).speed ≤ (ctxOf t n).speed + s.strands[n].force.amax * 16
      ∧ ((ctxOf s n).state = .frozen → (ctxOf t n).speed = (ctxOf s n).speed) := by
  obtain rfl | ⟨y, slot, -, -, -, hf, rfl⟩ := h
  · exact ⟨Nat.le_add_right _ _, Nat.le_add_right _ _, fun _ => rfl⟩
  · have hv := commonSteps_speed (s.strands[n].force.vmax * 16) (s.strands[n].force.amax * 16) (ctxOf s n).speed y
    rw [ctxOf_mapCtx, limitFor, capOf, accelOf]
    dsimp only
    exact ⟨by omega, by omega, fun h => absurd h hf⟩

/-! ## The opening -/

/-- What the opening of a period on `r` leaves of a context, `g` being the settings that come into force. -/
abbrev openedCtx (g : StrandCfg) (r : Reading) (c : Ctx) : Ctx :=
  takeLevel r.level (if followsNorm c then { c with levelTarget := g.lnorm } else c)

theorem ctxOf_openPeriod (n : Strand) (r : Reading) (s : State) :
    ctxOf (openPeriod n r s) n = openedCtx s.cfg.strands[n] r (ctxOf s n) := ctxOf_mapBlock n _ s

theorem openPeriod_samples (n : Strand) (r : Reading) (s : State) :
    samples s.cfg.strands[n] r (openPeriod n r s).strands[n] := by
  rw [openPeriod_part, withPart_block]
  exact ⟨rfl, rfl⟩

/-- The context of the opening, field by field (R75, R76, R77, R81, R82). -/
theorem openedCtx_fields (g : StrandCfg) (r : Reading) (c : Ctx) :
    (openedCtx g r c).state = c.state ∧ (openedCtx g r c).speed = c.speed ∧ (openedCtx g r c).stopper = c.stopper
      ∧ (openedCtx g r c).integrator = c.integrator
      ∧ (openedCtx g r c).history = (match r.level with | some l => pushHistory c.history l | none => [])
      ∧ (openedCtx g r c).extremes
        = (match r.level with
          | some l => if c.state = .idle then c.extremes else some (stretch l c.extremes)
          | none => c.extremes)
      ∧ (openedCtx g r c).mode
        = (match r.level with
          | some _ => if c.mode = .holdLast then .closed else c.mode
          | none => if c.mode = .closed then .holdLast else c.mode)
      ∧ (c.state = .idle → (openedCtx g r c).levelTarget = g.lnorm) := by
  have norm (h : c.state = .idle) : followsNorm c = true := by simp [followsNorm, h]
  unfold openedCtx takeLevel
  by_cases hn : followsNorm c = true
  · rw [if_pos hn]
    cases r.level <;> exact ⟨rfl, rfl, rfl, rfl, rfl, rfl, rfl, fun _ => rfl⟩
  · rw [if_neg hn]
    cases r.level <;> exact ⟨rfl, rfl, rfl, rfl, rfl, rfl, rfl, fun h => absurd (norm h) hn⟩

/-- A loop CLOSED after the opening has a valid sample (R75). -/
theorem level_of_closed {g : StrandCfg} (h : (openedCtx g r c).mode = .closed) : ∃ l, r.level = some l := by
  obtain ⟨-, -, -, -, -, -, hmode, -⟩ := openedCtx_fields g r c
  rw [hmode] at h
  cases hl : r.level with
  | some l => exact ⟨l, rfl⟩
  | none =>
    rw [hl] at h
    cases hm : c.mode <;> rw [hm] at h <;> cases h

/-- A loop in HOLD_LAST after the opening has none (R75). -/
theorem level_of_holdLast {g : StrandCfg} (h : (openedCtx g r c).mode = .holdLast) : r.level = none := by
  obtain ⟨-, -, -, -, -, -, hmode, -⟩ := openedCtx_fields g r c
  rw [hmode] at h
  cases hl : r.level with
  | none => rfl
  | some l =>
    rw [hl] at h
    cases hm : c.mode <;> rw [hm] at h <;> cases h

/-! ## The end -/

/-- How a control period on `r` that began in the context `c` leaves the block `b` of its stages 2 to 4: with stages 5 to 7,
into IDLE or not, or cut short by a TRIP action, which only outside Law 5 can meet a strand in IDLE or TRIPPED. -/
inductive PeriodEnd (r : Reading) (c : Ctx) (b : Block) : Block → Prop
  | idled (h : b.ctx.state = .stopping) : PeriodEnd r c b (closedBlock r (idleBlock b))
  | closed : PeriodEnd r c b (closedBlock r b)
  | down (h : Down b) : PeriodEnd r c b b
  | stray (hs : c.state = .idle ∨ c.state = .tripped) (hm : b.ctx.mode = .closed) : PeriodEnd r c b b

theorem closePeriod_end (c : Ctx) : PeriodEnd r c w.strands[n] (closePeriod n r w).strands[n] := by
  rw [← withPart_self n w]
  by_cases h : w.strands[n].ctx.state = .stopping ∧ w.strands[n].ctx.speed = 0 ∧ r.measured < 10
  · rw [closePeriod_idle h, withPart_block, withPart_block]
    exact .idled h.1
  · rw [closePeriod_running h, withPart_block, withPart_block]
    exact .closed

/-- A control period block by block: the block of its stages 2 to 4, and the end it came to. -/
theorem periodOn_ends (n : Strand) (r : Reading) (s : State) : ∃ b, samples s.cfg.strands[n] r b
    ∧ Steady { openedCtx s.cfg.strands[n] r (ctxOf s n) with speed := b.ctx.speed } b.ctx
    ∧ (b.ctx.state ≠ .tripped → b.ctx.speed ≤ (ctxOf s n).speed + s.cfg.strands[n].amax * 16
      ∧ (ctxOf s n).speed ≤ b.ctx.speed + s.cfg.strands[n].amax * 16
      ∧ ((ctxOf s n).state = .frozen → b.ctx.speed = (ctxOf s n).speed))
    ∧ PeriodEnd r (ctxOf s n) b (periodOn n r s).strands[n] := by
  obtain ⟨m, u, w, hm, hu, hw, hend⟩ := periodOn_cases n r s
  have hms := hm.samples (openPeriod_samples n r s)
  have hmc := hm.steady
  have huc := hu.steady
  have hwc := hw.steady
  rw [ctxOf_openPeriod] at hmc
  obtain ⟨hst, hsp, -⟩ := openedCtx_fields s.cfg.strands[n] r (ctxOf s n)
  refine ⟨w.strands[n], hw.samples (hu.samples hms), ?_, fun ht => ?_, ?_⟩
  · exact (((hmc.atSpeed _).trans huc).atSpeed _).trans hwc.toSpeed
  · have hut : (ctxOf u n).state ≠ .tripped := fun e => ht (hwc.tripped e)
    have hmt : (ctxOf m n).state ≠ .tripped := hu.state ▸ hut
    obtain ⟨hup, hdown, hfrozen⟩ := hu.bounds
    rw [hmc.speed hmt, hsp, ← hwc.speed ht] at hup hdown hfrozen
    rw [hms.1] at hup hdown
    refine ⟨hup, hdown, fun hf => hfrozen ?_⟩
    exact (hmc.frozen (hst.trans hf)).resolve_right hmt
  · obtain hend | ⟨hend, hdown | ⟨hs, hmode, -⟩⟩ := hend <;> rw [hend]
    · exact closePeriod_end _
    · exact .down hdown
    · exact .stray hs hmode

variable {b' : Block}

theorem PeriodEnd.history (h : PeriodEnd r c b b') : b'.ctx.history = b.ctx.history := by
  cases h with
  | idled =>
    obtain ⟨w, i, hc⟩ := closedBlock_ctx r (idleBlock b)
    rw [hc]
    rfl
  | closed =>
    obtain ⟨w, i, hc⟩ := closedBlock_ctx r b
    rw [hc]
  | down | stray => rfl

theorem PeriodEnd.speed (h : PeriodEnd r c b b') : b'.ctx.speed = b.ctx.speed := by
  cases h with
  | idled =>
    obtain ⟨w, i, hc⟩ := closedBlock_ctx r (idleBlock b)
    rw [hc]
    rfl
  | closed =>
    obtain ⟨w, i, hc⟩ := closedBlock_ctx r b
    rw [hc]
  | down | stray => rfl

theorem PeriodEnd.samples {g : StrandCfg} (h : PeriodEnd r c b b') (hb : samples g r b) : samples g r b' := by
  cases h <;> exact hb

/-- A period enters IDLE from STOPPING alone, and drops peak and valley there (R11, R28, R77). -/
theorem PeriodEnd.state (h : PeriodEnd r c b b') :
    (b'.ctx.state = b.ctx.state ∧ b'.ctx.extremes = b.ctx.extremes ∧ b'.ctx.levelTarget = b.ctx.levelTarget)
      ∨ (b.ctx.state = .stopping ∧ b'.ctx.state = .idle ∧ b'.ctx.extremes = none) := by
  cases h with
  | idled h =>
    obtain ⟨w, i, hc⟩ := closedBlock_ctx r (idleBlock b)
    rw [hc]
    exact .inr ⟨h, rfl, rfl⟩
  | closed =>
    obtain ⟨w, i, hc⟩ := closedBlock_ctx r b
    rw [hc]
    exact .inl ⟨rfl, rfl, rfl⟩
  | down | stray => exact .inl ⟨rfl, rfl, rfl⟩

theorem loopStep_closed {g : StrandCfg} {l : Nat} (h : c.mode = .closed) (hl : r.level = some l) :
    loopStep g r c = { c with
      stopper := (loopCompute g (loopSpeed c r.measured) c.levelTarget l c.integrator).stopper
      integrator := (loopCompute g (loopSpeed c r.measured) c.levelTarget l c.integrator).integrator } := by
  obtain ⟨⟩ := c
  obtain rfl := h
  rw [loopStep, hl]

theorem loopStep_mode (g : StrandCfg) (r : Reading) (c : Ctx) : (loopStep g r c).mode = c.mode := by
  unfold loopStep
  split <;> rfl

theorem closedBlock_mode (r : Reading) (b : Block) : (closedBlock r b).ctx.mode = b.ctx.mode := loopStep_mode _ _ _

theorem loopStep_holdLast {g : StrandCfg} (h : c.mode = .holdLast) : loopStep g r c = c := by
  unfold loopStep
  split <;> simp_all

/-- A loop that ends a lawful period CLOSED was CLOSED after its stages 2 to 4 and has been computed (R85, R86). -/
theorem PeriodEnd.computed (h : PeriodEnd r c b b') (hm : b'.ctx.mode = .closed)
    (hs : ¬ ((c.state = .idle ∨ c.state = .tripped) ∧ b.ctx.mode = .closed)) :
    b'.ctx = loopStep b.force r b.ctx ∧ b.ctx.mode = .closed := by
  cases h with
  | idled =>
    rw [closedBlock_mode] at hm
    cases hm
  | closed => exact ⟨rfl, (closedBlock_mode r b).symm.trans hm⟩
  | down hd => cases hd.mode.symm.trans hm
  | stray hst hmode => exact absurd ⟨hst, hmode⟩ hs

/-- HOLD_LAST holds stopper and integrator (R87). -/
theorem PeriodEnd.held (h : PeriodEnd r c b b') (hm : b'.ctx.mode = .holdLast) :
    b'.ctx.stopper = b.ctx.stopper ∧ b'.ctx.integrator = b.ctx.integrator ∧ b.ctx.mode = .holdLast := by
  cases h with
  | idled =>
    rw [closedBlock_mode] at hm
    cases hm
  | closed =>
    rw [closedBlock_mode] at hm
    have hc : (closedBlock r b).ctx = b.ctx := loopStep_holdLast hm
    rw [hc]
    exact ⟨rfl, rfl, hm⟩
  | down hd => cases hd.mode.symm.trans hm
  | stray _ hmode => cases hmode.symm.trans hm

/-- A loop that ends a period OFF ends it with stopper and integrator at 0 (R78). -/
theorem PeriodEnd.off (h : PeriodEnd r c b b') (hm : b'.ctx.mode = .off) :
    b'.ctx.stopper = 0 ∧ b'.ctx.integrator = 0 := by
  cases h with
  | idled =>
    rw [closedBlock_off (b := idleBlock b) rfl]
    exact ⟨rfl, rfl⟩
  | closed =>
    rw [closedBlock_mode] at hm
    rw [closedBlock_off hm]
    exact ⟨rfl, rfl⟩
  | down hd => exact ⟨hd.stopper, hd.integrator⟩
  | stray _ hmode => cases hmode.symm.trans hm

/-- Under Law 5 no TRIP action meets a strand in IDLE or TRIPPED, since its loop is OFF. -/
theorem not_stray (hlaw : stopperOk c) {g : StrandCfg} {v : Nat}
    (hb : Steady { openedCtx g r c with speed := v } b.ctx) :
    ¬ ((c.state = .idle ∨ c.state = .tripped) ∧ b.ctx.mode = .closed) := by
  rintro ⟨hst, hm⟩
  obtain ⟨-, -, -, -, -, -, hmode, -⟩ := openedCtx_fields g r c
  have hoff : c.mode = .off := (hlaw.2.2.2 (hst.elim .inl fun h => .inr (.inl h))).1
  have hopen : (openedCtx g r c).mode = .off := by
    rw [hmode, hoff]
    cases r.level <;> rfl
  obtain ⟨h, -⟩ | ⟨h, -⟩ := hb.loop
  · cases (hm.symm.trans h).trans hopen
  · cases hm.symm.trans h

theorem exec_period {x : Sample} (h : s.phase = .running) :
    exec (.controlPeriod n x) s = .next (periodOn n (readSample x) s) := by
  rw [exec, execControlPeriod, whenRunning, if_pos h]

/-- The stages 5 to 7 drive the outputs from the context (R2, R56). -/
theorem PeriodEnd.outputs (h : PeriodEnd r c b b') (ht : b'.ctx.state ≠ .tripped)
    (hs : ¬ ((c.state = .idle ∨ c.state = .tripped) ∧ b.ctx.mode = .closed)) :
    b'.outSpeed = speedOut b'.ctx.speed ∧ b'.outStopper = b'.ctx.stopper := by
  cases h with
  | idled | closed => exact ⟨rfl, rfl⟩
  | down hd => exact absurd hd.state ht
  | stray hst hmode => exact absurd ⟨hst, hmode⟩ hs

/-- Settles O16. -/
theorem controlPeriodBoundsTheSetpoint : Obligations.ControlPeriodBoundsTheSetpoint := by
  intro n x s t hrun hlaw hexec ht
  obtain rfl : periodOn n (readSample x) s = t := Host.Outcome.next.inj ((exec_period hrun).symm.trans hexec)
  obtain ⟨b, -, hsteady, hspeed, hend⟩ := periodOn_ends n (readSample x) s
  have hbt : b.ctx.state ≠ .tripped := by
    obtain ⟨hst, -⟩ | ⟨hst, -⟩ := hend.state
    · exact hst ▸ ht
    · rw [hst]
      decide
  obtain ⟨hup, hdown, hfrozen⟩ := hspeed hbt
  obtain ⟨hout, hstop⟩ := hend.outputs ht (not_stray (hlaw n) hsteady)
  have hsame : (ctxOf (periodOn n (readSample x) s) n).speed = b.ctx.speed := hend.speed
  rw [hsame]
  exact ⟨hup, hdown, hfrozen, hout.trans (congrArg speedOut hsame), hstop⟩

/-! ## A strand in IDLE or TRIPPED -/

/-- In IDLE and TRIPPED no check is made, and each condition leaves the set (R149, R153). -/
theorem checks_resting {prior : List Nat} (hst : b.ctx.state = .idle ∨ b.ctx.state = .tripped) (hmode : b.ctx.mode = .off) :
    checks n r prior (withPart n b a al s)
      = { st := withPart n { b with active := ActiveSet.empty, ctx := { b.ctx with lag := 0 } } a al s, cut := false } := by
  have hunchecked : isWatched b.ctx.state = false ∧ isInterlocked b.ctx.state = false ∧ isMoving b.ctx.state = false := by
    obtain h | h := hst <;> rw [h] <;> decide
  obtain ⟨hw, hi, hm⟩ := hunchecked
  refine checks_none ?_ ?_ ?_ ?_ ?_ ?_ ?_
  · rw [hw, Bool.false_and]
  · rw [hi, Bool.false_and]
  · rw [hw, Bool.false_and]
  · rw [hw]
    rfl
  · rintro l - ⟨hc, -⟩
    cases hmode.symm.trans hc
  · rw [hm]
    rfl
  · rw [hm, Bool.false_and]

/-- A lawful period in IDLE or TRIPPED empties the active-condition set (R153). -/
theorem periodOn_resting (hlaw : stopperOk (ctxOf s n)) (hst : (ctxOf s n).state = .idle ∨ (ctxOf s n).state = .tripped) :
    (periodOn n r s).strands[n].active = ActiveSet.empty := by
  generalize hb : openedBlock s.cfg.strands[n] r s.strands[n] = b
  obtain ⟨hstate, -, -, -, -, -, hmode, -⟩ := openedCtx_fields s.cfg.strands[n] r (ctxOf s n)
  have hbst : b.ctx.state = (ctxOf s n).state := by rw [← hb]; exact hstate
  have hbmode : b.ctx.mode = .off := by
    have hoff : (ctxOf s n).mode = .off := (hlaw.2.2.2 (hst.elim .inl fun h => .inr (.inl h))).1
    have hopen : (openedCtx s.cfg.strands[n] r (ctxOf s n)).mode = .off := by
      rw [hmode, hoff]
      cases r.level <;> rfl
    rw [← hb]
    exact hopen
  rw [← hbst] at hst
  generalize hd : ({ b with active := ActiveSet.empty, ctx := { b.ctx with lag := 0 } } : Block) = d
  have hdst : d.ctx.state = .idle ∨ d.ctx.state = .tripped := by rw [← hd]; exact hst
  have htimed : timedStage n r (withPart n d s.arb s.alarm s) = { st := withPart n d s.arb s.alarm s, cut := false } := by
    rw [timedStage, ctxOf_withPart]
    obtain h | h := hdst <;> rw [h]
  have hramp : rampAndActions n (withPart n d s.arb s.alarm s)
      = { st := withPart n d s.arb s.alarm s, cut := false } := by
    rw [rampAndActions, speedStage, ctxOf_withPart]
    obtain h | h := hdst <;> rw [h] <;> rfl
  have hclose : d.ctx.state ≠ .stopping := by
    obtain h | h := hdst <;> rw [h] <;> decide
  have hperiod : periodOn n r s = withPart n (closedBlock r d) s.arb s.alarm s := by
    rw [periodOn, openPeriod_part, hb, checks_resting hst hbmode, hd, unlessCut_going, htimed, unlessCut_going, hramp,
      unlessCut_going, quiet, closePeriod_withPart hclose]
  rw [hperiod, withPart_block, ← hd]
  rfl

theorem pushHistory_eq (h : List Nat) (l : Nat) : pushHistory h l = (h ++ [l]).drop (h.length + 1 - 4) := by
  unfold pushHistory
  dsimp only
  rw [List.length_append, List.length_singleton]
  split
  · rfl
  · rw [Nat.sub_eq_zero_of_le (by omega), List.drop_zero]

/-- Settles O15. -/
theorem controlPeriodIsItsStrandsOwn : Obligations.ControlPeriodIsItsStrandsOwn := by
  constructor
  · intro n x s hrun
    have honly := periodOn_only n (readSample x) s
    obtain ⟨b, hb, -, -, hend⟩ := periodOn_ends n (readSample x) s
    obtain ⟨hforce, hsampled⟩ := hend.samples hb
    exact ⟨_, exec_period hrun, honly.rest, honly.others, honly.spacing, honly.holders, honly.queue, hforce, hsampled⟩
  · intro n x s t hrun hexec
    obtain rfl : periodOn n (readSample x) s = t := Host.Outcome.next.inj ((exec_period hrun).symm.trans hexec)
    obtain ⟨b, ⟨hforce, -⟩, hb, -, hend⟩ := periodOn_ends n (readSample x) s
    obtain ⟨hstate, -, hstopper, hintegrator, hhistory, hextremes, -, htarget⟩ :=
      openedCtx_fields s.cfg.strands[n] (readSample x) (ctxOf s n)
    have hlevel : (readSample x).level = validLevel x := rfl
    rw [hlevel] at hhistory hextremes
    have hidle : b.ctx.state = .idle ↔ (ctxOf s n).state = .idle := hb.idle.trans (by rw [← hstate])
    generalize ht : (periodOn n (readSample x) s).strands[n] = b' at hend
    have hctx : ctxOf (periodOn n (readSample x) s) n = b'.ctx := congrArg Block.ctx ht
    rw [hctx]
    refine ⟨fun hv => ?_, fun l hv => ?_, fun hs hs' => ?_, fun hs hs' => ?_, fun hs => ?_, fun hlaw hm => ?_, fun hm => ?_,
      hend.off, fun hlaw hs => ht ▸ periodOn_resting (hlaw n) hs⟩
    · rw [hend.history, hb.history]
      exact hhistory.trans (by rw [hv])
    · rw [hend.history, hb.history, ← pushHistory_eq]
      exact hhistory.trans (by rw [hv])
    · obtain ⟨-, he, -⟩ | ⟨-, hi, -⟩ := hend.state
      · rw [he, hb.extremes]
        refine hextremes.trans ?_
        cases validLevel x with
        | none => rfl
        | some l =>
          dsimp only
          rw [if_neg hs]
          cases (ctxOf s n).extremes <;> rfl
      · exact absurd hi hs'
    · obtain ⟨he, -⟩ | ⟨-, -, he⟩ := hend.state
      · exact absurd (hidle.1 (he ▸ hs')) hs
      · exact he
    · obtain ⟨-, he, hlt⟩ | ⟨he, -⟩ := hend.state
      · rw [he, hlt, hb.extremes, hb.target (hstate.trans hs)]
        refine ⟨hextremes.trans ?_, htarget hs⟩
        cases validLevel x with
        | none => rfl
        | some l => exact if_pos hs
      · cases (hidle.2 hs).symm.trans he
    · obtain ⟨hloop, hbm⟩ := hend.computed hm (not_stray (hlaw n) hb)
      obtain ⟨hopen, hs, hi⟩ | ⟨hoff, -⟩ := hb.loop
      · obtain ⟨l, hv⟩ := level_of_closed (hopen.symm.trans hbm)
        refine ⟨l, hv, ?_⟩
        rw [hloop, loopStep_closed hbm hv, hforce, hi.trans hintegrator]
        exact ⟨rfl, rfl⟩
      · cases hbm.symm.trans hoff
    · obtain ⟨hs, hi, hbm⟩ := hend.held hm
      obtain ⟨hopen, hs', hi'⟩ | ⟨hoff, -⟩ := hb.loop
      · exact ⟨level_of_holdLast (hopen.symm.trans hbm), hs.trans (hs'.trans hstopper), hi.trans (hi'.trans hintegrator)⟩
      · cases hbm.symm.trans hoff

end Whole

end Sys2Proof.Machine
end

section
/-! SUPPORT. What a command leaves of the stored data: the configuration, the plans, the image, and the plans that the
contexts reference (R38, R49, R163 to R166). -/

namespace Sys2Proof.Machine

open Sys2Proof

/-! ## The plan a context references -/

/-- `c'` references the plan that `c` references, or none. -/
def KeepsPlan (c c' : Ctx) : Prop := c'.plan = c.plan ∨ c'.plan = none

theorem StageMove.keepsPlan {b b' : Block} (h : StageMove b b') : KeepsPlan b.ctx b'.ctx := by
  cases h with
  | trip | cast => exact .inr rfl
  | notes | dwell | wait | hold | slot => exact .inl rfl

theorem takeLevel_plan (level : Option Nat) (c : Ctx) : (takeLevel level c).plan = c.plan := by
  unfold takeLevel
  split <;> rfl

theorem loopStep_plan (g : StrandCfg) (r : Reading) (c : Ctx) : (loopStep g r c).plan = c.plan := by
  unfold loopStep
  split <;> rfl

theorem openedCtx_plan (g : StrandCfg) (r : Reading) (c : Ctx) : (openedCtx g r c).plan = c.plan := by
  rw [openedCtx, takeLevel_plan]
  split <;> rfl

/-! ## States with the same stored data -/

/-- `t` holds the configuration, the plans and the image of `s`, and a context of `t` references a plan it referenced in
`s` or one that R49 lets it reference. -/
structure StoredKept (s t : State) : Prop where
  cfg   : t.cfg = s.cfg
  plans : t.plans = s.plans
  image : t.store.image.data = s.store.image.data
  refs  : ∀ (n : Strand) (r : PlanRef), (ctxOf t n).plan = some r → (ctxOf s n).plan = some r ∨ refOk s r

theorem refOk_congr {s t : State} (h : t.plans = s.plans) (r : PlanRef) : refOk t r ↔ refOk s r := by
  cases r <;> simp only [refOk, h]

protected theorem StoredKept.refl (s : State) : StoredKept s s := ⟨rfl, rfl, rfl, fun _ _ => .inl⟩

protected theorem StoredKept.trans {s t u : State} (h : StoredKept s t) (k : StoredKept t u) : StoredKept s u where
  cfg := k.cfg.trans h.cfg
  plans := k.plans.trans h.plans
  image := k.image.trans h.image
  refs n r hr := (k.refs n r hr).elim (h.refs n r) fun hok => .inr ((refOk_congr h.plans r).1 hok)

/-- A change of anything but blocks and stored data. -/
theorem StoredKept.other {s t : State} (hs : t.strands = s.strands) (hc : t.cfg = s.cfg) (hp : t.plans = s.plans)
    (hi : t.store.image.data = s.store.image.data) : StoredKept s t :=
  ⟨hc, hp, hi, fun n r hr => .inl (by rwa [ctxOf, hs] at hr)⟩

section Strand

variable {n : Strand} {s t : State}

theorem mapBlock_stored_of {f : Block → Block} (hf : ∀ r, (f s.strands[n]).ctx.plan = some r →
    (ctxOf s n).plan = some r ∨ refOk s r) : StoredKept s (mapBlock n f s) := by
  refine ⟨rfl, rfl, rfl, fun m r hr => ?_⟩
  by_cases hm : m = n
  · subst hm
    rw [ctxOf_mapBlock] at hr
    exact hf r hr
  · rw [ctxOf_mapBlock_other n m f s hm] at hr
    exact .inl hr

theorem mapBlock_stored {f : Block → Block} (hf : KeepsPlan s.strands[n].ctx (f s.strands[n]).ctx) :
    StoredKept s (mapBlock n f s) := by
  refine mapBlock_stored_of fun r hr => .inl ?_
  obtain h | h := hf
  · exact h.symm.trans hr
  · cases h.symm.trans hr

theorem mapCtx_stored {f : Ctx → Ctx} (hf : KeepsPlan (ctxOf s n) (f (ctxOf s n))) : StoredKept s (mapCtx n f s) :=
  mapBlock_stored hf

/-- A chain of changes none of which gives its context another plan. -/
theorem StrandRun.stored {R : Block → Block → Prop} (hR : ∀ b b', R b b' → KeepsPlan b.ctx b'.ctx)
    (h : StrandRun R n s t) : StoredKept s t := by
  induction h with
  | refl => exact .refl s
  | tail _ hm ih =>
    refine ih.trans ?_
    cases hm with
    | block f h => exact mapBlock_stored (hR _ _ h)
    | record r => exact (mapBlock_stored (f := fun b => { b with log := logRecord b.log r r.kind r.mark })
        (.inl rfl)).trans (.other rfl rfl rfl rfl)
    | arbiter a => exact .other rfl rfl rfl rfl

theorem StrandRun.stage_stored (h : StrandRun StageMove n s t) : StoredKept s t := h.stored fun _ _ => StageMove.keepsPlan

theorem raise_stored (k : Kind) : StoredKept s (raise n k s) := (raise_run n k s).stage_stored

theorem leaveFor_stored (next : StrandState) : StoredKept s (leaveFor n next s) := (leaveFor_run n next s).stage_stored

theorem enqueue_stored : StoredKept s (enqueue n s) := .other rfl rfl rfl rfl

theorem applyAction_stored {a : Action} (h : a ≠ .stop) : StoredKept s (applyAction n a s) :=
  (applyAction_run h).stage_stored

theorem SpeedStep.stored (h : SpeedStep n s t) : StoredKept s t := by
  obtain h | ⟨y, slot, -, -, -, -, h⟩ := h <;> rw [h]
  · exact .refl s
  · exact mapCtx_stored (.inl rfl)

theorem closePeriod_stored (r : Reading) : StoredKept s (closePeriod n r s) := by
  have hstop : StoredKept s (stopTest n r s) := by
    unfold stopTest
    split
    · exact mapBlock_stored (.inr rfl)
    · exact .refl s
  unfold closePeriod levelStage driveOutputs
  exact (hstop.trans (mapCtx_stored (.inl (loopStep_plan _ _ _)))).trans (mapBlock_stored (.inl rfl))

theorem periodOn_stored (n : Strand) (r : Reading) (s : State) : StoredKept s (periodOn n r s) := by
  obtain ⟨m, u, w, hm, hu, hw, h⟩ := periodOn_cases n r s
  have hopen : StoredKept s (openPeriod n r s) := mapBlock_stored (.inl (openedCtx_plan _ _ _))
  have run : StoredKept s w := ((hopen.trans hm.stage_stored).trans hu.stored).trans hw.stage_stored
  obtain h | ⟨h, -⟩ := h <;> rw [h]
  · exact run.trans (closePeriod_stored r)
  · exact run

theorem strandGrant_stored : StoredKept s (strandGrant n s) := by
  unfold strandGrant
  split
  · have hx := (RampRun.start n (mapCtx n (fun c => { c with state := .ramp, permit := true }) s)).startSlot
      (by simp) 1
    exact ((mapCtx_stored (.inl rfl)).trans hx.run.stage_stored).trans (applyActions_run hx.actions).stage_stored
  · exact .refl s

theorem enterStopping_stored : StoredKept s (enterStopping n s) := (leaveFor_stored _).trans (mapBlock_stored (.inr rfl))

theorem changeBeginAt_stored : StoredKept s (changeBeginAt n s) := by
  have enter : StoredKept s (enterChange n s) := (leaveFor_stored _).trans (mapBlock_stored (.inr rfl))
  unfold changeBeginAt
  split
  case h_7 =>
    split
    · exact .refl s
    · exact mapBlock_stored (.inr rfl)
  case h_8 | h_9 | h_10 | h_11 => exact .refl s
  all_goals exact enter

/-- A usable plan is VALID at the revision its reference takes (R49, R51). -/
theorem refOk_usableRef {k : Nat} {kind : RestartKind} {r : PlanRef} (h : usableRef s k kind = some r) : refOk s r := by
  obtain ⟨p, -, hv, -, rfl⟩ := usableRef_eq_some.1 h
  exact ⟨hv, rfl⟩

/-- The plan a restart begins under, a usable one or plan F, is one R49 lets it reference. -/
theorem refOk_chosen (k : Nat) (kind : RestartKind) : refOk s ((usableRef s k kind).getD .fallback) := by
  cases h : usableRef s k kind with
  | some r => exact refOk_usableRef h
  | none => trivial

theorem noteNoPlan_stored (r : PlanRef) : StoredKept s (noteNoPlan n r s) :=
  (noteNoPlan_run (R := StageMove) r).stage_stored

theorem beginTundish_stored : StoredKept s (beginTundish n s) := by
  unfold beginTundish mapCtx
  dsimp only
  rw [mapBlock_mapBlock]
  refine (mapBlock_stored_of fun r hr => .inr ?_).trans (noteNoPlan_stored _)
  cases hr
  exact refOk_chosen _ _

theorem beginDip_stored : StoredKept s (beginDip n s) := by
  unfold beginDip mapCtx
  refine (mapBlock_stored_of fun r hr => .inr ?_).trans (noteNoPlan_stored _)
  cases hr
  exact refOk_chosen _ _

theorem beginStart_stored {r : PlanRef} (h : refOk s r) : StoredKept s (beginStart n r s) := by
  unfold beginStart mapCtx
  rw [mapBlock_mapBlock]
  refine mapBlock_stored_of fun q hq => .inr ?_
  cases hq
  exact h

theorem seatedAt_stored : StoredKept s (seatedAt n s) := by
  unfold seatedAt
  split
  · exact beginTundish_stored
  · exact .refl s

theorem overrunAt_stored : StoredKept s (overrunAt n s) := by
  by_cases h : stopsAtOverrun (ctxOf s n) = true
  · rw [overrunAt_stops h]
    exact (raise_stored _).trans enterStopping_stored
  · rw [overrunAt, if_neg h]
    exact .refl s

theorem freezeStrand_stored : StoredKept s (freezeStrand n s) := by
  unfold freezeStrand
  split
  · exact (leaveFor_stored _).trans (mapCtx_stored (.inl rfl))
  · exact .refl s

theorem outageAt_stored : StoredKept s (outageAt n s) := by
  unfold outageAt
  split
  · exact (raise_stored _).trans (applyAction_stored (actionOf_ne_stop (by decide)))
  · exact .refl s

theorem recoverInto_stored (f : FreezeReturn) : StoredKept s (recoverInto f n s) := by
  have thaw (st : StrandState) (u : State) : StoredKept u (thawTo st n u) := mapCtx_stored (.inl rfl)
  have held (h : Option HoldReturn) (u : State) : StoredKept u (setHoldReturn n h u) := mapCtx_stored (.inl rfl)
  cases f with
  | fill | dwell | change => exact (thaw _ _).trans (held _ _)
  | waitPermit => exact ((thaw _ _).trans (held _ _)).trans enqueue_stored
  | ramp | cast => exact (((thaw _ _).trans (held _ _)).trans beginDip_stored).trans enqueue_stored
  | held =>
    unfold recoverInto recoverHeld
    dsimp only
    split
    · exact ((thaw _ _).trans (held _ _)).trans beginDip_stored
    · exact thaw _ _

theorem recoverAt_stored (measured : Vector Nat 6) : StoredKept s (recoverAt measured n s) := by
  unfold recoverAt
  split
  · exact (mapBlock_stored (.inl rfl) : StoredKept s (lowerSpeed measured[n] n s)).trans (recoverInto_stored _)
  · exact .refl s

theorem holdStrand_stored : StoredKept s (holdStrand n s) := (holdStrand_run n s).stage_stored

theorem stopStrand_stored : StoredKept s (stopStrand n s) := by
  unfold stopStrand
  split
  · exact enterStopping_stored
  · exact .refl s

theorem resumeStrand_stored (h : HoldReturn) : StoredKept s (resumeStrand n h s) := by
  unfold resumeStrand
  split
  · exact (mapCtx_stored (.inl rfl)).trans enqueue_stored
  all_goals exact mapCtx_stored (.inl rfl)

theorem releaseTrip_stored : StoredKept s (releaseTrip n s) :=
  (mapBlock_stored (.inr rfl) : StoredKept s (enterIdle n s)).trans (mapBlock_stored (.inl rfl))

end Strand

/-! ## Events -/

section Events

variable {s : State}

theorem forEach_stored {f : Strand → State → State} (hf : ∀ n t, StoredKept t (f n t)) (s : State) :
    StoredKept s (forEach f s) :=
  forEach_keeps (P := StoredKept s) (fun n t h => h.trans (hf n t)) (.refl s)

theorem evaluateGrants_stored (s : State) : StoredKept s (evaluateGrants s) := by
  refine evaluateGrants_keeps (P := StoredKept s) (fun t _ h => h.trans ?_) (.refl s)
  unfold grantHead
  split
  · exact .refl t
  · exact (StoredKept.other rfl rfl rfl rfl : StoredKept t (arbiterGrant _ _ t)).trans strandGrant_stored

/-- A change of blocks after one of neither blocks nor stored data. -/
theorem StoredKept.ofOther {t u : State} (h : StoredKept t u) (hs : t.strands = s.strands) (hc : t.cfg = s.cfg)
    (hp : t.plans = s.plans) (hi : t.store.image.data = s.store.image.data) : StoredKept s u :=
  (StoredKept.other hs hc hp hi).trans h

theorem whenRunning_stored {f : State → State} (h : StoredKept s (f s)) : StoredKept s (whenRunning f s) := by
  unfold whenRunning
  split
  · exact h
  · exact .refl s

theorem raisePlant_stored (k : Kind) (affected : List Strand) (s : State) : StoredKept s (raisePlant k affected s) :=
  .other rfl rfl rfl rfl

theorem spacingExpires_stored : StoredKept s (spacingExpires s) := by
  unfold spacingExpires
  split
  · exact (evaluateGrants_stored _).ofOther rfl rfl rfl rfl
  · exact .refl s

theorem beginEdge_stored (s : State) : StoredKept s (beginEdge s) := by
  unfold beginEdge
  split
  · exact (forEach_stored (fun _ _ => changeBeginAt_stored) _).ofOther rfl rfl rfl rfl
  · exact .refl s

theorem seatedEdge_stored (s : State) : StoredKept s (seatedEdge s) := by
  unfold seatedEdge
  split
  · exact (forEach_stored (fun _ _ => seatedAt_stored) _).ofOther rfl rfl rfl rfl
  · exact raisePlant_stored _ _ s

theorem onEdge_stored {edge : State → State} (h : ∀ u, StoredKept u (edge u)) (b : Bool) (s : State) :
    StoredKept s (onEdge b edge s) := by
  unfold onEdge
  split
  · exact h s
  · exact .refl s

theorem sampleCar_stored (b w first : Bool) : StoredKept s (sampleCar b w first s) := by
  have beginning := onEdge_stored beginEdge_stored
  have seating := onEdge_stored seatedEdge_stored
  unfold sampleCar
  dsimp only
  split
  · exact ((seating _ _).trans (beginning _ _)).ofOther rfl rfl rfl rfl
  · exact ((beginning _ _).trans (seating _ _)).ofOther rfl rfl rfl rfl

theorem windowExpires_stored : StoredKept s (windowExpires s) := by
  unfold windowExpires
  split
  · exact (forEach_stored (fun _ _ => overrunAt_stored) _).ofOther rfl rfl rfl rfl
  · exact .refl s

theorem handleVolts_stored (s : State) : StoredKept s (handleVolts s) := by
  have monitor (m : Monitor) : StoredKept s { s with mon := m } := .other rfl rfl rfl rfl
  have falls : StoredKept s (enterDip s) := (forEach_stored (fun _ _ => freezeStrand_stored) _).ofOther rfl rfl rfl rfl
  unfold handleVolts
  dsimp only
  split
  · split
    · exact falls
    · exact .refl s
  · split
    · exact monitor _
    · exact .refl s
  · split
    · exact .refl s
    · split <;> exact monitor _
  · split
    · exact .refl s
    · exact monitor _

theorem settleExpires_stored (measured : Vector Nat 6) : StoredKept s (settleExpires measured s) := by
  obtain h | ⟨-, -, -, h⟩ | ⟨-, -, -, h⟩ := settleExpires_cases measured s <;> rw [h]
  · exact .refl s
  · exact ((forEach_stored (fun _ _ => recoverAt_stored measured) _).trans (evaluateGrants_stored _)).ofOther
      rfl rfl rfl rfl
  · exact (evaluateGrants_stored _).ofOther rfl rfl rfl rfl

theorem rideExpires_stored : StoredKept s (rideExpires s) := by
  unfold rideExpires
  split
  · exact ((forEach_stored (fun _ _ => outageAt_stored) _).trans (raisePlant_stored _ _ _)).ofOther
      rfl rfl rfl rfl
  · exact .refl s

theorem foldl_receive_stored (chars : Text) : StoredKept s (chars.foldl (fun u x => receive (some x) u) s) := by
  induction chars generalizing s with
  | nil => exact .refl s
  | cons x xs ih =>
    obtain ⟨l, h⟩ := receive_line (some x) s
    rw [List.foldl_cons, h]
    exact ih.ofOther rfl rfl rfl rfl

theorem saveCompletes_stored (a b : Bool) : StoredKept s (saveCompletes a b s) := by
  unfold saveCompletes
  split
  · split <;> exact .other rfl rfl rfl rfl
  · exact .refl s

/-! ## Requests -/

theorem answer_stored (r : Reply) (s : State) : StoredKept s (answer r s) := .other rfl rfl rfl rfl

/-- A request is discarded, or answered by the interface, or served by its owner, which finds the line alone changed
(R179). -/
theorem serve_stored_cases (r : Request) (act : State → State) (s : State) :
    StoredKept s (whenRunning (serve r act) s) ∨ (interfaceRefusal r = none
      ∧ whenRunning (serve r act) s = act { s with line := lineTaking r s.line }) := by
  unfold whenRunning serve
  split
  · split
    · split
      · exact .inl (.other rfl rfl rfl rfl)
      · exact .inr ⟨‹_›, rfl⟩
    · exact .inl (.other rfl rfl rfl rfl)
  · exact .inl (.refl s)

theorem serve_stored {r : Request} {act : State → State} (h : ∀ u, StoredKept u (act u)) :
    StoredKept s (whenRunning (serve r act) s) := by
  obtain hs | ⟨-, hs⟩ := serve_stored_cases r act s
  · exact hs
  · rw [hs]
    exact (h _).ofOther rfl rfl rfl rfl

theorem begAt_stored (k : Nat) (plan : Option Nat) (seated ready : Bool) (s : State) :
    StoredKept s (begAt k plan seated ready s) := by
  unfold begAt
  split
  · exact answer_stored _ s
  · split
    · exact answer_stored _ s
    · rename_i r h
      refine (beginStart_stored ?_).trans (answer_stored _ _)
      unfold begChecks at h
      repeat' split at h
      all_goals cases h
      exact refOk_usableRef ‹_›

theorem hldAt_stored (k : Nat) (s : State) : StoredKept s (hldAt k s) := by
  unfold hldAt
  split
  · exact answer_stored _ s
  · split
    · exact holdStrand_stored.trans (answer_stored _ _)
    · exact answer_stored _ s

theorem stpAt_stored (k : Nat) (s : State) : StoredKept s (stpAt k s) := by
  unfold stpAt
  split
  · exact answer_stored _ s
  · split
    · exact stopStrand_stored.trans (answer_stored _ _)
    · exact answer_stored _ s

theorem answerUnless_stored (b : Bool) (r : Reply) (s : State) : StoredKept s (answerUnless b r s) := by
  unfold answerUnless
  split
  · exact .refl s
  · exact answer_stored r s

theorem resAt_stored (k : Nat) (plan : Option Nat) (s : State) : StoredKept s (resAt k plan s) := by
  unfold resAt
  split
  · exact answer_stored _ s
  · split
    · exact (resumeStrand_stored _).trans (answer_stored _ _)
    · exact answer_stored _ s

theorem relAt_stored (k m : Nat) (s : State) : StoredKept s (relAt k m s) := by
  unfold relAt
  split
  · exact answer_stored _ s
  · split
    · exact answer_stored _ s
    · exact releaseTrip_stored.trans (answer_stored _ _)

theorem ackAt_stored (l : LogSel) (s : State) : StoredKept s (ackAt l s) := by
  have clear (n : Strand) : StoredKept s (clearLog n s) :=
    (mapBlock_stored (n := n) (f := fun b => { b with log := Log.empty }) (.inl rfl)).trans (.other rfl rfl rfl rfl)
  unfold ackAt
  split
  · exact .other rfl rfl rfl rfl
  · split
    · exact answer_stored _ s
    · exact (clear _).trans (answer_stored _ _)

theorem rstAt_stored (s : State) : StoredKept s (rstAt s) := by
  unfold rstAt
  split
  · exact answer_stored _ s
  · split
    · exact answer_stored _ s
    · exact .other rfl rfl rfl rfl

end Events

end Sys2Proof.Machine
end

section
/-! PROOF. The items of a configuration after a PUT (R163 to R165): what one pair writes, what a request leaves, and that
an accepted PUT keeps ranges and cross-checks. -/

namespace Sys2Proof.Machine

open Sys2Proof

/-! ## One pair -/

theorem getStrandItem_setStrandNum_other {i j : StrandItem} (h : i ≠ j) (g : StrandCfg) (x : Nat) :
    getStrandItem (setStrandNum g x j) i = getStrandItem g i := by
  cases j <;> cases i <;> first | rfl | exact absurd rfl h

theorem getStrandItem_enabled_other {i : StrandItem} (h : i ≠ .enabled) (g : StrandCfg) (b : Bool) :
    getStrandItem { g with enabled := b } i = getStrandItem g i := by
  cases i with
  | enabled => exact absurd rfl h
  | _ => rfl

theorem getStrandItem_setStrandItem_other {i j : StrandItem} (h : i ≠ j) (g : StrandCfg) (v : Value) :
    getStrandItem (setStrandItem g j v) i = getStrandItem g i := by
  have flag (b : Bool) : getStrandItem (if j = .enabled then { g with enabled := b } else g) i = getStrandItem g i := by
    split
    · exact getStrandItem_enabled_other (fun e => h (e.trans (Eq.symm ‹_›))) g b
    · rfl
  cases v with
  | num x => exact getStrandItem_setStrandNum_other h g x
  | yes => exact flag true
  | no => exact flag false
  | _ => rfl

/-- An item takes the value its range accepts (R165). -/
theorem getStrandItem_setStrandItem_same {i : StrandItem} {n : Strand} {v : Value} (h : accepts (.strand i n) v = true)
    (g : StrandCfg) : getStrandItem (setStrandItem g i v) i = v := by
  cases i with
  | enabled =>
    obtain rfl | rfl : v = .yes ∨ v = .no := by simpa [accepts] using h
    · rfl
    · rfl
  | _ =>
    cases v with
    | num x => rfl
    | _ => cases h

theorem getPlantItem_setPlantNum_other {i j : PlantItem} (h : i ≠ j) (g : PlantCfg) (x : Nat) :
    getPlantItem (setPlantNum g x j) i = getPlantItem g i := by
  cases j <;> cases i <;> first | rfl | exact absurd rfl h

theorem getPlantItem_parity_other {i : PlantItem} (h : i ≠ .parity) (g : PlantCfg) (x : Parity) :
    getPlantItem { g with parity := x } i = getPlantItem g i := by
  cases i with
  | parity => exact absurd rfl h
  | _ => rfl

theorem getPlantItem_setPlantItem_other {i j : PlantItem} (h : i ≠ j) (g : PlantCfg) (v : Value) :
    getPlantItem (setPlantItem g j v) i = getPlantItem g i := by
  have parity (x : Parity) : getPlantItem (if j = .parity then { g with parity := x } else g) i = getPlantItem g i := by
    split
    · exact getPlantItem_parity_other (fun e => h (e.trans (Eq.symm ‹_›))) g x
    · rfl
  cases v with
  | num x => exact getPlantItem_setPlantNum_other h g x
  | parityNone => exact parity .none
  | even => exact parity .even
  | _ => rfl

theorem getPlantItem_setPlantItem_same {i : PlantItem} {v : Value} (h : accepts (.plant i) v = true) (g : PlantCfg) :
    getPlantItem (setPlantItem g i v) i = v := by
  cases i with
  | parity =>
    obtain rfl | rfl : v = .parityNone ∨ v = .even := by simpa [accepts] using h
    · rfl
    · rfl
  | _ =>
    cases v with
    | num x => rfl
    | _ => cases h

/-- A steering item is no plant item. -/
theorem getPlantItem_steering (c : Cfg) (i : PlantItem) (k : Kind) (v : Value) :
    getPlantItem (setItem c (.act k) v).plant i = getPlantItem c.plant i
      ∧ getPlantItem (setItem c (.alm k) v).plant i = getPlantItem c.plant i := by
  constructor
  · simp only [setItem]
    split
    · cases i <;> rfl
    · rfl
  · simp only [setItem]
    split
    · cases i <;> rfl
    · cases i <;> rfl
    · rfl

theorem setItem_steering_strands (c : Cfg) (k : Kind) (v : Value) :
    (setItem c (.act k) v).strands = c.strands ∧ (setItem c (.alm k) v).strands = c.strands := by
  constructor
  · simp only [setItem]
    split <;> rfl
  · simp only [setItem]
    split <;> rfl

/-- A strand item after one accepted pair. -/
theorem getStrandItem_setItem {key : CfgKey} {v : Value} (h : accepts key v = true) (c : Cfg) (n : Strand)
    (i : StrandItem) : getStrandItem (setItem c key v).strands[n] i
      = if key = .strand i n then v else getStrandItem c.strands[n] i := by
  cases key with
  | plant j => rfl
  | act k => rw [(setItem_steering_strands c k v).1, if_neg nofun]
  | alm k => rw [(setItem_steering_strands c k v).2, if_neg nofun]
  | strand j m =>
    by_cases hm : m = n
    · subst hm
      have hs : (setItem c (.strand j m) v).strands[m] = setStrandItem c.strands[m] j v := by simp [setItem]
      rw [hs]
      by_cases hj : i = j
      · subst hj
        rw [if_pos rfl, getStrandItem_setStrandItem_same h]
      · rw [if_neg (by simp [Ne.symm hj]), getStrandItem_setStrandItem_other hj]
    · have hv : m.val ≠ n.val := fun e => hm (Fin.ext e)
      have hs : (setItem c (.strand j m) v).strands[n] = c.strands[n] := by simp [setItem, hv]
      rw [hs, if_neg (by simp [hm])]

/-- A plant item after one accepted pair. -/
theorem getPlantItem_setItem {key : CfgKey} {v : Value} (h : accepts key v = true) (c : Cfg) (i : PlantItem) :
    getPlantItem (setItem c key v).plant i = if key = .plant i then v else getPlantItem c.plant i := by
  cases key with
  | strand j m => rfl
  | act k => rw [(getPlantItem_steering c i k v).1, if_neg nofun]
  | alm k => rw [(getPlantItem_steering c i k v).2, if_neg nofun]
  | plant j =>
    have hs : (setItem c (.plant j) v).plant = setPlantItem c.plant j v := rfl
    rw [hs]
    by_cases hj : i = j
    · subst hj
      rw [if_pos rfl, getPlantItem_setPlantItem_same h]
    · rw [if_neg (by simp [Ne.symm hj]), getPlantItem_setPlantItem_other hj]

/-! ## A request -/

/-- Item `key` goes from `old` to `new` by the pairs of a PUT: none names it and it stands, or it has the value of one
that does. -/
def Written (pairs : List (CfgKey × Value)) (key : CfgKey) (old new : Value) : Prop :=
  (new = old ∧ ∀ p ∈ pairs, p.1 ≠ key) ∨ ∃ p ∈ pairs, p.1 = key ∧ new = p.2

/-- A reading of the configuration that one accepted pair writes when it names `key`, and leaves otherwise. -/
theorem written_applyPairs {read : Cfg → Value} {key : CfgKey}
    (hread : ∀ k v, accepts k v = true → ∀ c, read (setItem c k v) = if k = key then v else read c)
    {pairs : List (CfgKey × Value)} (h : ∀ p ∈ pairs, accepts p.1 p.2 = true) (c : Cfg) :
    Written pairs key (read c) (read (applyPairs c pairs)) := by
  induction pairs generalizing c with
  | nil => exact .inl ⟨rfl, by simp⟩
  | cons q qs ih =>
    obtain ⟨hq, hqs⟩ := List.forall_mem_cons.1 h
    have first := hread q.1 q.2 hq c
    obtain ⟨he, hn⟩ | ⟨p, hp, hk, hv⟩ := ih hqs (setItem c q.1 q.2)
    · by_cases hk : q.1 = key
      · rw [if_pos hk] at first
        exact .inr ⟨q, List.mem_cons_self, hk, he.trans first⟩
      · rw [if_neg hk] at first
        exact .inl ⟨he.trans first, List.forall_mem_cons.2 ⟨hk, hn⟩⟩
    · exact .inr ⟨p, List.mem_cons_of_mem _ hp, hk, hv⟩

theorem strandItem_written {pairs : List (CfgKey × Value)} (h : ∀ p ∈ pairs, accepts p.1 p.2 = true) (c : Cfg)
    (n : Strand) (i : StrandItem) : Written pairs (.strand i n) (getStrandItem c.strands[n] i)
      (getStrandItem (applyPairs c pairs).strands[n] i) :=
  written_applyPairs (read := fun c => getStrandItem c.strands[n] i) (fun _ _ hv c => getStrandItem_setItem hv c n i) h c

theorem plantItem_written {pairs : List (CfgKey × Value)} (h : ∀ p ∈ pairs, accepts p.1 p.2 = true) (c : Cfg)
    (i : PlantItem) : Written pairs (.plant i) (getPlantItem c.plant i) (getPlantItem (applyPairs c pairs).plant i) :=
  written_applyPairs (read := fun c => getPlantItem c.plant i) (fun _ _ hv c => getPlantItem_setItem hv c i) h c

/-- An item in its range stays in it. -/
theorem Written.accepted {pairs : List (CfgKey × Value)} {key : CfgKey} {old new : Value}
    (h : Written pairs key old new) (ha : ∀ p ∈ pairs, accepts p.1 p.2 = true) (hold : accepts key old = true) :
    accepts key new = true := by
  obtain ⟨rfl, -⟩ | ⟨p, hp, rfl, rfl⟩ := h
  · exact hold
  · exact ha p hp

/-- A relation between two numbers survives a PUT that tests it wherever it writes one of them. -/
theorem Written.related {pairs : List (CfgKey × Value)} {k l : CfgKey} {a a' b b' : Nat} {R : Nat → Nat → Prop}
    (hk : Written pairs k (.num a) (.num a')) (hl : Written pairs l (.num b) (.num b')) (hold : R a b)
    (htest : ∀ p ∈ pairs, p.1 = k ∨ p.1 = l → R a' b') : R a' b' := by
  obtain ⟨ha, -⟩ | ⟨p, hp, he, -⟩ := hk
  · obtain ⟨hb, -⟩ | ⟨p, hp, he, -⟩ := hl
    · cases ha
      cases hb
      exact hold
    · exact htest p hp (.inr he)
  · exact htest p hp (.inl he)

/-! ## Ranges and cross-checks -/

/-- The cross-checks of a strand's items (R163) are three relations of its levels. -/
theorem strandCross_iff {g : StrandCfg} : (∀ i ∈ allStrandItems, strandCross g i = true)
    ↔ g.lnorm < g.lhigh ∧ g.llow < g.lnorm ∧ g.lfloor ≤ g.llow := by
  simp only [allStrandItems, List.forall_mem_cons, strandCross]
  simp
  tauto

/-- The range of a strand item is that of every strand (R163). -/
theorem accepts_strand (i : StrandItem) (n : Strand) (v : Value) : accepts (.strand i n) v = accepts (.strand i 0) v := by
  cases i with
  | enabled => rfl
  | _ => cases v <;> rfl

theorem strandCfgOk_iff {g : StrandCfg} : strandCfgOk g
    ↔ (∀ i ∈ allStrandItems, accepts (.strand i 0) (getStrandItem g i) = true)
      ∧ g.lnorm < g.lhigh ∧ g.llow < g.lnorm ∧ g.lfloor ≤ g.llow := by
  rw [← strandCross_iff]
  exact ⟨fun h => ⟨fun i hi => (h i hi).1, fun i hi => (h i hi).2⟩, fun h i hi => ⟨h.1 i hi, h.2 i hi⟩⟩

/-- A PUT whose pairs pass tests 2 and 3 keeps ranges and cross-checks (R165). -/
theorem applyPairs_ok {c : Cfg} {pairs : List (CfgKey × Value)} (h : cfgOk c)
    (ha : ∀ p ∈ pairs, accepts p.1 p.2 = true) (hx : ∀ p ∈ pairs, crossCheck (applyPairs c pairs) p.1 = true) :
    cfgOk (applyPairs c pairs) := by
  obtain ⟨hs, hp, hv⟩ := h
  have plant := plantItem_written ha c
  refine ⟨fun n => ?_, fun i hi => (plant i).accepted ha (hp i hi), ?_⟩
  · obtain ⟨hr, hnorm, hlow, hfloor⟩ := strandCfgOk_iff.1 (hs n)
    have item := strandItem_written ha c n
    have test {i : StrandItem} {p : CfgKey × Value} (hp : p ∈ pairs) (hk : p.1 = .strand i n) :
        strandCross (applyPairs c pairs).strands[n] i = true := by
      have := hx p hp
      rwa [hk] at this
    refine strandCfgOk_iff.2 ⟨fun i hi => ?_, ?_, ?_, ?_⟩
    · rw [← accepts_strand i n]
      exact (item i).accepted ha ((accepts_strand i n _).trans (hr i hi))
    · refine (item .lnorm).related (item .lhigh) hnorm fun p hp hk => ?_
      obtain hk | hk := hk <;> have := test hp hk <;> simp_all [strandCross]
    · refine (item .llow).related (item .lnorm) hlow fun p hp hk => ?_
      obtain hk | hk := hk <;> have := test hp hk <;> simp_all [strandCross]
    · refine (item .lfloor).related (item .llow) hfloor fun p hp hk => ?_
      obtain hk | hk := hk <;> have := test hp hk <;> simp_all [strandCross]
  · refine (plant .vdip).related (plant .vok) (R := fun a b => a + 20 ≤ b) hv fun p hp hk => ?_
    have := hx p hp
    obtain hk | hk := hk <;> simp_all [crossCheck]

/-- What tests 2 and 3 of an accepted PUT have found (R165). -/
theorem putRefusal_none {s : State} {pairs : List (CfgKey × Value)} (h : putRefusal s pairs = none) :
    (∀ p ∈ pairs, accepts p.1 p.2 = true) ∧ ∀ p ∈ pairs, crossCheck (applyPairs s.cfg pairs) p.1 = true := by
  have one {p : CfgKey × Value} (hp : pairRefusal s p = none) : accepts p.1 p.2 = true := by
    unfold pairRefusal at hp
    split at hp
    · split at hp
      · cases hp
      · split at hp
        · rename_i hk _ ha
          exact ha
        · cases hp
    · split at hp
      · assumption
      · cases hp
  unfold putRefusal at h
  split at h
  · cases h
  · split at h
    · cases h
    · rename_i hpairs
      rw [List.findSome?_eq_none_iff] at hpairs
      rw [Option.map_eq_none_iff, List.find?_eq_none] at h
      exact ⟨fun p hp => one (hpairs p hp), fun p hp => by simpa using h p hp⟩

end Sys2Proof.Machine
end

section
/-! SUPPORT. The requests of the Plan Table (chapter 2): what each makes of a plan record, when it is refused, and that the
record stays as R38 and R39 have it. -/

namespace Sys2Proof.Machine

open Sys2Proof

/-! ## References -/

theorem mem_allStrands (n : Strand) : n ∈ allStrands := by
  revert n
  decide

/-- A plan's reference count is 0 where no context references it (R48). -/
theorem refCount_eq_zero {s : State} {p : PlanNo} :
    refCount s p = 0 ↔ ∀ (n : Strand) (rev : Nat), (ctxOf s n).plan ≠ some (.plan p rev) := by
  rw [refCount, List.countP_eq_zero]
  refine ⟨fun h n rev he => h n (mem_allStrands n) ?_, fun h n _ hn => ?_⟩
  · rw [← ctxOf, he]
    exact beq_self_eq_true p
  · split at hn
    · rename_i q rev he
      rw [beq_iff_eq] at hn
      subst hn
      exact h n rev he
    · cases hn

/-- Tests 4 and 5 of R41 passed. -/
theorem planRefusal_none {s : State} {p : PlanNo} : planRefusal s p = none ↔ s.store.saving = false
    ∧ ∀ (n : Strand) (rev : Nat), (ctxOf s n).plan ≠ some (.plan p rev) := by
  rw [← refCount_eq_zero]
  unfold planRefusal
  cases s.store.saving <;> simp

/-! ## Plan records -/

theorem planOk_checked {x : Plan} (h : planOk x) (hx : planFault x = none) : planOk { x with state := .valid } := by
  obtain ⟨hr, -, -, hh, hs⟩ := h
  refine ⟨hr, nofun, fun _ => ⟨?_, hx⟩, hh, hs⟩
  unfold planFault at hx
  split at hx
  · cases hx
  · rename_i he
    exact Option.isSome_of_eq_some he

theorem nextRevision_lt (rev : Nat) : nextRevision rev < 65536 := Nat.mod_lt _ (by decide)

theorem planOk_withHeader {h : Header} (hh : headerInRange h = true) {x : Plan} (hx : planOk x) :
    planOk (withHeader h x) := by
  obtain ⟨-, -, -, -, hs⟩ := hx
  exact ⟨nextRevision_lt _, nofun, nofun, by simpa [withHeader] using hh, hs⟩

theorem planOk_cleared (x : Plan) : planOk (cleared x) := by
  refine ⟨nextRevision_lt _, fun _ => ⟨rfl, fun i => ?_⟩, nofun, nofun, fun i y hy => ?_⟩
  · simp [cleared]
  · simp [cleared] at hy

/-- A slot write puts its groups at consecutive positions from `i`, counted from 0, and keeps the others (R43). -/
theorem storeSlots_getElem (v : Vector (Option Slot) 16) (i : Nat) (gs : List Slot) (j : Fin 16) :
    (storeSlots v i gs)[j] = if i ≤ j.val ∧ j.val < i + gs.length then gs[j.val - i]? else v[j] := by
  induction gs generalizing v i with
  | nil => exact (if_neg (by simp)).symm
  | cons g gs ih =>
    rw [storeSlots, ih]
    obtain hj | rfl | hj := Nat.lt_trichotomy i j.val
    · obtain ⟨k, hk⟩ := Nat.exists_eq_add_of_lt hj
      have hset : (v.setIfInBounds i (some g))[j] = v[j] := by simp [Nat.ne_of_lt hj]
      have hget : (g :: gs)[j.val - i]? = gs[j.val - (i + 1)]? := by
        rw [show j.val - i = j.val - (i + 1) + 1 by omega, List.getElem?_cons_succ]
      rw [hset, hget]
      exact if_congr (by simp only [List.length_cons]; omega) rfl rfl
    · rw [if_neg (by omega), if_pos (by simp)]
      simp
    · have hset : (v.setIfInBounds i (some g))[j] = v[j] := by simp [(Nat.ne_of_lt hj).symm]
      rw [if_neg (by omega), if_neg (by omega), hset]

theorem planOk_withSlots {i : Nat} {gs : List Slot} (hg : ∀ g ∈ gs, slotInRange g = true) {x : Plan} (hx : planOk x) :
    planOk (withSlots i gs x) := by
  obtain ⟨-, -, -, hh, hs⟩ := hx
  refine ⟨nextRevision_lt _, nofun, nofun, hh, fun j y hy => ?_⟩
  have hget : (withSlots i gs x).slots[j] = _ := storeSlots_getElem x.slots (i - 1) gs j
  rw [hget] at hy
  split at hy
  · exact hg y (List.mem_of_getElem? hy)
  · exact hs j y hy

/-! ## What the interface lets through -/

theorem header_of_served {p : Nat} {h : Header} (hr : interfaceRefusal (.plnHeader p h) = none) :
    headerInRange h = true := by
  simp only [interfaceRefusal, requestInRange] at hr
  simp_all

theorem slots_of_served {p i : Nat} {gs : List Slot} (hr : interfaceRefusal (.plnSlots p i gs) = none) :
    ∀ g ∈ gs, slotInRange g = true := by
  cases gs with
  | nil => simp
  | cons g gs =>
    simp only [interfaceRefusal, requestInRange] at hr
    simp_all

end Sys2Proof.Machine
end

section
/-! PROOF. The laws of the stored data: settings and plan records stay in their ranges, and a referenced plan stays VALID
at the revision held (R38, R39, R49, R163 to R166). -/

namespace Sys2Proof.Machine

open Sys2Proof

/-! ## What a command makes of the stored data -/

/-- What a command makes of the stored data: nothing; an accepted PUT; a plan that no context references, or that is a
DRAFT, in another record; the image a save begins to write; or what a start loads, with no plan referenced. -/
inductive StoredStep (s t : State) : Prop
  | kept (h : StoredKept s t)
  | put (pairs : List (CfgKey × Value)) (ha : ∀ p ∈ pairs, accepts p.1 p.2 = true)
      (hx : ∀ p ∈ pairs, crossCheck (applyPairs s.cfg pairs) p.1 = true)
      (h : StoredKept { s with cfg := applyPairs s.cfg pairs } t)
  | plan (p : PlanNo) (x : Plan) (hx : planOk s.plans[p] → planOk x)
      (hr : s.plans[p].state = .draft ∨ ∀ (n : Strand) (rev : Nat), (ctxOf s n).plan ≠ some (.plan p rev))
      (h : StoredKept { s with plans := s.plans.set p x } t)
  | save (hc : t.cfg = s.cfg) (hp : t.plans = s.plans)
      (hi : t.store.image.data = some { plans := s.plans, cfg := s.cfg }) (hs : t.strands = s.strands)
  | start (hc : t.cfg = (loadedData s).cfg) (hp : t.plans = (loadedData s).plans)
      (hi : t.store.image.data = s.store.image.data) (hn : ∀ n : Strand, (ctxOf t n).plan = none)

section Requests

variable {s : State}

theorem writePlan_step {r : Request} {f : Plan → Plan} (p : Nat)
    (hf : interfaceRefusal r = none → ∀ x, planOk x → planOk (f x)) :
    StoredStep s (whenRunning (serve r (writePlan p f)) s) := by
  obtain h | ⟨hr, h⟩ := serve_stored_cases r (writePlan p f) s
  · exact .kept h
  rw [h]
  unfold writePlan
  split
  · exact .kept (.other rfl rfl rfl rfl)
  · rename_i q _
    split
    · exact .kept (.other rfl rfl rfl rfl)
    · rename_i hn
      exact .plan q _ (hf hr _) (.inr (planRefusal_none.1 hn).2) (.other rfl rfl rfl rfl)

theorem checkPlan_step (p : Nat) : StoredStep s (whenRunning (serve (.chk p) (checkPlan p)) s) := by
  obtain h | ⟨-, h⟩ := serve_stored_cases (.chk p) (checkPlan p) s
  · exact .kept h
  rw [h]
  unfold checkPlan
  split
  · exact .kept (.other rfl rfl rfl rfl)
  · rename_i q _
    split
    · exact .kept (.other rfl rfl rfl rfl)
    · split
      · exact .kept (.other rfl rfl rfl rfl)
      · exact .kept (.other rfl rfl rfl rfl)
      · rename_i hd
        split
        · exact .kept (.other rfl rfl rfl rfl)
        · rename_i hx
          exact .plan q _ (fun h => planOk_checked h hx) (.inl hd) (.other rfl rfl rfl rfl)

theorem putAt_step (pairs : List (CfgKey × Value)) :
    StoredStep s (whenRunning (serve (.put pairs) (putAt pairs)) s) := by
  obtain h | ⟨-, h⟩ := serve_stored_cases (.put pairs) (putAt pairs) s
  · exact .kept h
  rw [h]
  unfold putAt
  split
  · exact .kept (.other rfl rfl rfl rfl)
  · rename_i hn
    obtain ⟨ha, hx⟩ := putRefusal_none hn
    refine .put pairs ha hx ?_
    unfold applyPut
    dsimp only
    split
    · exact (evaluateGrants_stored _).ofOther rfl rfl rfl rfl
    · exact .other rfl rfl rfl rfl

theorem savAt_step : StoredStep s (whenRunning (serve .sav savAt) s) := by
  obtain h | ⟨-, h⟩ := serve_stored_cases .sav savAt s
  · exact .kept h
  rw [h]
  unfold savAt
  split
  · exact .kept (.other rfl rfl rfl rfl)
  · split
    · exact .kept (.other rfl rfl rfl rfl)
    · exact .save rfl rfl rfl rfl

end Requests

section Starts

variable {s : State}

theorem lineReset_step (volts : Nat) : StoredStep s (driveAlarm (startBase .lineReset volts s)) :=
  .start rfl rfl rfl fun n => congrArg (fun b => b.ctx.plan) (startBase_block (k := .lineReset) (volts := volts) n)

/-- Control power brings no line reset (R170). -/
theorem startKind_ne_lineReset (s : State) : startKind s ≠ .lineReset := by
  unfold startKind
  split
  · split <;> nofun
  · nofun

theorem powerStart_step (terminals : Vector Sample 6) (volts : Nat) (s : State) :
    StoredStep s (powerStart terminals volts s) := by
  have planless (n : Strand) : (ctxOf (powerStart terminals volts s) n).plan = none := by
    obtain ⟨-, -, hb⟩ := powerStart_Started terminals volts s
    obtain ⟨-, ⟨hc, -⟩ | ⟨c, p, hc, -⟩⟩ := hb n <;> rw [hc] <;> rfl
  cases hk : startKind s with
  | powerOn =>
    rw [powerStart_powerOn hk] at planless ⊢
    exact .start rfl rfl rfl planless
  | lineReset => exact absurd hk (startKind_ne_lineReset s)
  | powerReturn snap =>
    rw [powerStart_powerReturn hk, powerReturnTrips_rest terminals rfl] at planless ⊢
    exact .start rfl rfl rfl planless

end Starts

theorem forceOutputs_stored (s : State) : StoredKept s (forceOutputs s) := by
  unfold forceOutputs
  dsimp only
  have h : StoredKept s (forEach (fun n => mapBlock n forcedBlock) s) :=
    forEach_stored (fun _ _ => mapBlock_stored (.inl rfl)) s
  exact ⟨h.cfg, h.plans, h.image, h.refs⟩

/-- What a command can make of the stored data. -/
theorem exec_storedStep {i : Instr} {s t : State} (h : exec i s = .next t) : StoredStep s t := by
  have when {f : State → State} (hf : StoredKept s (f s)) : StoredStep s (whenRunning f s) :=
    .kept (whenRunning_stored hf)
  have reads {r : Request} {act : State → State} (hf : ∀ u, StoredKept u (act u)) :
      StoredStep s (whenRunning (serve r act) s) := .kept (serve_stored hf)
  have same {u : State} (hs : u.strands = s.strands) (hc : u.cfg = s.cfg) (hp : u.plans = s.plans)
      (hi : u.store.image.data = s.store.image.data) : StoredStep s u := .kept (.other hs hc hp hi)
  cases i with
  | controlPeriod n x => cases h; exact when (periodOn_stored n _ s)
  | grantEvaluation => cases h; exact when (evaluateGrants_stored s)
  | spacingTimerExpiry => cases h; exact when spacingExpires_stored
  | carLineSampling b w first => cases h; exact when (sampleCar_stored b w first)
  | changeWindowExpiry => cases h; exact when windowExpires_stored
  | busVoltageSampling v => cases h; exact when ((handleVolts_stored _).ofOther rfl rfl rfl rfl)
  | settleTimerExpiry m => cases h; exact when (settleExpires_stored m)
  | rideThroughExpiry => cases h; exact when rideExpires_stored
  | timeCounterTick => cases h; exact when (.other rfl rfl rfl rfl)
  | requestLine chars => cases h; exact when (foldl_receive_stored chars)
  | characterReceived code p f =>
    cases h
    refine when ?_
    obtain ⟨l, hl⟩ := receive_line (receivedChar s.line.parity code p f) s
    rw [hl]
    exact .other rfl rfl rfl rfl
  | saveCompletion a b => cases h; exact when (saveCompletes_stored a b)
  | replySent v =>
    cases h
    unfold whenRunning replyDone
    split
    · split
      · exact .kept (.refl s)
      · split
        · exact lineReset_step v
        · exact same rfl rfl rfl rfl
    · exact .kept (.refl s)
  | sta | getIdent | getStrand | getLog | getPlan | getSlot | getCfg | getPermit | getStore | getTime =>
    cases h
    exact reads fun u => answer_stored _ u
  | getCause | getLineerr => cases h; exact reads fun u => .other rfl rfl rfl rfl
  | put pairs => cases h; exact putAt_step pairs
  | plnHeaderWrite p hd => cases h; exact writePlan_step p fun hr _ => planOk_withHeader (header_of_served hr)
  | plnSlotWrite p i gs => cases h; exact writePlan_step p fun hr _ => planOk_withSlots (slots_of_served hr)
  | plnClr p => cases h; exact writePlan_step p fun _ x _ => planOk_cleared x
  | chk p => cases h; exact checkPlan_step p
  | beg n p b r => cases h; exact reads (begAt_stored n p b r)
  | hld n => cases h; exact reads (hldAt_stored n)
  | hldAll b =>
    cases h
    exact reads fun u => (forEach_stored (fun _ _ => holdStrand_stored) u).trans (answerUnless_stored b _ _)
  | res n p => cases h; exact reads (resAt_stored n p)
  | stp n => cases h; exact reads (stpAt_stored n)
  | stpAll b =>
    cases h
    exact reads fun u => (forEach_stored (fun _ _ => stopStrand_stored) u).trans (answerUnless_stored b _ _)
  | rel n m => cases h; exact reads (relAt_stored n m)
  | ack l => cases h; exact reads (ackAt_stored l)
  | sav => cases h; exact savAt_step
  | rst => cases h; exact reads rstAt_stored
  | shutdown =>
    cases h
    unfold supplyFails
    split
    · exact .kept ((forceOutputs_stored s).trans (.other rfl rfl rfl rfl))
    all_goals exact same rfl rfl rfl rfl
  | controlSupplyFailingDeassert =>
    cases h
    unfold supplyRestored
    split <;> exact same rfl rfl rfl rfl
  | powerApplication f =>
    cases h
    have hlost : StoredKept s (losePower s) := .other rfl rfl rfl rfl
    exact .kept ((hlost.trans (forceOutputs_stored _)).trans (.other rfl rfl rfl rfl))
  | start terminals volts =>
    cases h
    split
    · exact powerStart_step terminals volts s
    · exact .kept (.refl s)
  | controlPowerLoss => cases h; exact same rfl rfl rfl rfl
  | snapshotCompletion =>
    cases h
    unfold snapshotDone
    split <;> exact same rfl rfl rfl rfl

/-- What a step can make of the stored data, the queue of commands apart. -/
theorem step_storedStep {s t : State} (h : step s = .next t) :
    ∃ rest, StoredStep { s with pending := rest } t := by
  unfold step at h
  split at h
  · cases h
    exact ⟨s.pending, .kept (.refl s)⟩
  · exact ⟨_, exec_storedStep h⟩

/-! ## Settings -/

theorem StageMove.force {b b' : Block} (h : StageMove b b') : b'.force = b.force := by cases h <;> rfl

/-- The settings in force at a strand change to those of working memory alone (R55, R84). -/
theorem BlockMove.force {g : StrandCfg} {b b' : Block} (h : BlockMove g b b') : b'.force = b.force ∨ b'.force = g := by
  cases h with
  | stage h => exact .inl h.force
  | opened r => exact .inr rfl
  | _ => exact .inl rfl

theorem BlockMove.forceOk {g : StrandCfg} {b b' : Block} (h : BlockMove g b b') (hg : strandCfgOk g)
    (hb : strandCfgOk b.force) : strandCfgOk b'.force := by
  obtain he | he := h.force <;> rw [he]
  · exact hb
  · exact hg

theorem StoredStep.settings {s t : State} (h : StoredStep s t) (hset : settingsLaw s) :
    cfgOk t.cfg ∧ ∀ d ∈ t.store.image.data, cfgOk d.cfg := by
  obtain ⟨hcfg, -, himg⟩ := id hset
  cases h with
  | kept h | plan _ _ _ _ h => exact ⟨h.cfg ▸ hcfg, h.image ▸ himg⟩
  | put pairs ha hx h => exact ⟨h.cfg ▸ applyPairs_ok hcfg ha hx, h.image ▸ himg⟩
  | save hc _ hi => exact ⟨hc ▸ hcfg, by simpa [hi] using hcfg⟩
  | start hc _ hi => exact ⟨hc ▸ loadedData_ok hset, hi ▸ himg⟩

/-! ## Plans -/

/-- The plans a start loads are as the image holds them, or EMPTY (R164, R171). -/
theorem loadedData_plans {s : State} (h : planTableLaw s) (p : PlanNo) : planOk (loadedData s).plans[p] := by
  obtain ⟨-, himg⟩ := h
  have blank : planOk (Vector.replicate 12 Plan.blank)[p] := by simpa using blank_ok
  unfold loadedData validImage
  split
  · cases hd : s.store.image.data with
    | none => exact blank
    | some d => exact himg d hd p
  · exact blank

theorem StoredStep.planTable {s t : State} (h : StoredStep s t) (hlaw : planTableLaw s) : planTableLaw t := by
  obtain ⟨hplans, himg⟩ := id hlaw
  cases h with
  | kept h | put _ _ _ h => exact ⟨h.plans ▸ hplans, h.image ▸ himg⟩
  | plan p x hx _ h =>
    refine ⟨fun q => ?_, h.image ▸ himg⟩
    rw [h.plans]
    by_cases hq : p.val = q.val
    · obtain rfl := Fin.ext hq
      simpa using hx (hplans p)
    · simpa [hq] using hplans q
  | save _ hp hi => exact ⟨hp ▸ hplans, by simpa [hi] using hplans⟩
  | start _ hp hi => exact ⟨hp ▸ loadedData_plans hlaw, hi ▸ himg⟩

/-- Settles O7: by what a command can make of the stored data, with the settings in force taken from working memory. -/
theorem storedValuesStayInRange : Obligations.StoredValuesStayInRange := by
  refine ⟨fun s t hset h => ?_, fun s t hlaw h => ?_⟩
  · obtain ⟨rest, hs⟩ := step_storedStep h
    obtain ⟨hcfg, himg⟩ := hs.settings hset
    exact ⟨hcfg, step_keeps_blocks (Q := fun b => strandCfgOk b.force) hset (fun _ _ _ hg hm hb => hm.forceOk hg hb)
      (fun _ _ => id) (fun _ => id) (fun _ _ hg hf _ => hf ▸ hg) h hset.2.1, himg⟩
  · obtain ⟨rest, hs⟩ := step_storedStep h
    exact hs.planTable hlaw

/-! ## References -/

/-- A reference stands while its plan does. -/
theorem refOk_of_plan {s t : State} {p : PlanNo} {rev : Nat} (h : t.plans[p] = s.plans[p]) (hr : refOk s (.plan p rev)) :
    refOk t (.plan p rev) := by
  simpa only [refOk, h] using hr

theorem StoredKept.references {s t : State} (h : StoredKept s t) (hlaw : referenceLaw s) : referenceLaw t :=
  fun n r hr => (refOk_congr h.plans r).2 ((h.refs n r hr).elim (hlaw n r) id)

theorem StoredStep.references {s t : State} (h : StoredStep s t) (hlaw : referenceLaw s) : referenceLaw t := by
  cases h with
  | kept h => exact h.references hlaw
  | put _ _ _ h => exact h.references hlaw
  | plan p x _ hr h =>
    refine h.references fun n r hn => ?_
    have hok : refOk s r := hlaw n r hn
    cases r with
    | fallback => trivial
    | plan q rev =>
      by_cases hq : p.val = q.val
      · obtain rfl := Fin.ext hq
        obtain hd | hno := hr
        · exact absurd (hok.1.symm.trans hd) (by decide)
        · exact absurd hn (hno n rev)
      · exact refOk_of_plan (by simp [hq]) hok
  | save _ hp _ hs =>
    intro n r hr
    rw [ctxOf, hs] at hr
    exact (refOk_congr hp r).2 (hlaw n r hr)
  | start _ _ _ hn =>
    intro n r hr
    rw [hn n] at hr
    cases hr

/-- Settles O11: only a plan that no context references, or a DRAFT, which none may, gets another record. -/
theorem referenceLawKept : Obligations.ReferenceLawKept := by
  intro s t hlaw h
  obtain ⟨rest, hs⟩ := step_storedStep h
  exact hs.references hlaw

end Sys2Proof.Machine
end

section
/-! PROOF. The interface's refusals, the requests of the Plan Table, and the reads of strands, logs, plans and slots
(chapters 2 and 10). -/

namespace Sys2Proof.Machine

open Sys2Proof

/-! ## Verbs as requests -/

section Requests

variable {r : Request} {s : State} {p : PlanNo}

/-- A verb command is its request reaching its owner (R179). -/
theorem exec_request {c : Instr} (h : c.request? = some r) : ∃ act, ∀ s, exec c s = request r act s := by
  cases c <;> cases h <;> exact ⟨_, fun _ => rfl⟩

theorem exec_refused {c : Instr} {reply : Reply} (h : c.request? = some r) (ht : taken r s)
    (hr : interfaceRefusal r = some reply) : exec c s = .next (answered r reply s) := by
  obtain ⟨act, hact⟩ := exec_request h
  rw [hact, request_refused ht hr]

/-- Test 4 of R179: a request with a number out of range, its form being one the line can carry. -/
theorem interfaceRefusal_range (h : requestInRange r = false) (hs : ∀ p i, r ≠ .plnSlots p i []) :
    interfaceRefusal r = some (noFor "RANGE" []) := by
  unfold interfaceRefusal
  split
  · cases h
  · exact absurd rfl (hs _ _)
  · cases h
  · rw [h]
    rfl

theorem strandInRange_eq_false {n : Nat} (h : n = 0 ∨ 6 < n) : strandInRange n = false := by
  simp only [strandInRange, within, Bool.and_eq_false_iff, decide_eq_false_iff_not]
  omega

theorem planInRange_eq_false {p : Nat} (h : p = 0 ∨ 12 < p) : planInRange p = false := by
  simp only [planInRange, within, Bool.and_eq_false_iff, decide_eq_false_iff_not]
  omega

theorem exec_outOfRange {c : Instr} (h : c.request? = some r) (ht : taken r s) (hr : requestInRange r = false)
    (hs : ∀ p i, r ≠ .plnSlots p i []) : exec c s = .next (answered r (noFor "RANGE" []) s) :=
  exec_refused h ht (interfaceRefusal_range hr hs)

/-- Characters that arrive while ANSWERING, and are no LF, count once for the span (R175). -/
theorem charAnswering_none (l : Line) : charAnswering none l = { l with
    firstChar := false, spanCounted := true
    errors := if l.spanCounted then l.errors else min (l.errors + 1) 255 } := by
  obtain ⟨recv, buffer, errors, addr, baud, parity, handed, reply, firstChar, spanCounted, resetArmed⟩ := l
  cases spanCounted <;> simp [charAnswering, countFaulty]

/-- Settles O43. -/
theorem requestsAreTakenOneAtATime : Obligations.RequestsAreTakenOneAtATime := by
  refine ⟨⟨fun c r reply s h ht hr => exec_refused h ht hr, ?_, ?_⟩, fun c r s h hp hw => ?_⟩
  · intro n m p plan a b c r s hn hp hc hr ht
    have hn := strandInRange_eq_false hn
    have hp := planInRange_eq_false hp
    have out : requestInRange r = false ∧ ∀ q i, r ≠ .plnSlots q i [] := by
      simp only [List.mem_cons, List.not_mem_nil, or_false] at hc
      obtain rfl | rfl | rfl | rfl | rfl | rfl | rfl | rfl | rfl | rfl | rfl | rfl | rfl | rfl := hc
      all_goals
        cases hr
        simp [requestInRange, logSelInRange, planSelInRange, planArgInRange, hn, hp]
    exact exec_outOfRange hr ht out.1 out.2
  · intro p i h gs c r s hp hg hc hr ht
    have hp := planInRange_eq_false hp
    have out : requestInRange r = false ∧ ∀ q i, r ≠ .plnSlots q i [] := by
      simp only [List.mem_cons, List.not_mem_nil, or_false] at hc
      obtain rfl | rfl := hc
      all_goals
        cases hr
        simp [requestInRange, hp, hg]
    exact exec_outOfRange hr ht out.1 out.2
  · obtain ⟨act, hact⟩ := exec_request h
    rw [hact, request_waits hp hw, charAnswering_none]

/-! ## PLN -/

/-- A plan in use has a reference count above 0 (R48). -/
theorem planRefusal_inUse (hs : s.store.saving = false)
    (h : ∃ (n : Strand) (rev : Nat), (ctxOf s n).plan = some (.plan p rev)) :
    planRefusal s p = some (noFor "INUSE" []) := by
  have hc : refCount s p ≠ 0 := fun e => by
    obtain ⟨n, rev, hn⟩ := h
    exact refCount_eq_zero.1 e n rev hn
  simp [planRefusal, hs, hc]

theorem request_writePlan {f : Plan → Plan} (ht : taken r s) (hr : interfaceRefusal r = none) :
    request r (writePlan (p.val + 1) f) s = .next (match planRefusal s p with
      | some reply => answered r reply s
      | none => { answered r { ok := true, fields := [] } s with plans := s.plans.set p (f s.plans[p]) }) := by
  have hq (l : Line) : planRefusal { s with line := l } p = planRefusal s p := rfl
  rw [request_served ht hr, writePlan, planOf_succ]
  dsimp only
  rw [hq]
  cases planRefusal s p with
  | some reply => exact congrArg _ (answer_taking reply s r)
  | none => simp [answer, mapPlan, okPlain]

/-- A PLN on a plan no context references, the store being idle, is applied whole (R41). -/
theorem request_writePlan_applied {f : Plan → Plan} (ht : taken r s) (hr : interfaceRefusal r = none)
    (hs : s.store.saving = false) (hf : ∀ (n : Strand) (rev : Nat), (ctxOf s n).plan ≠ some (.plan p rev)) :
    request r (writePlan (p.val + 1) f) s
      = .next { answered r { ok := true, fields := [] } s with plans := s.plans.set p (f s.plans[p]) } := by
  rw [request_writePlan ht hr, planRefusal_none.2 ⟨hs, hf⟩]

theorem plnHeader_served {h : Header} (hh : headerInRange h = true) :
    interfaceRefusal (.plnHeader (p.val + 1) h) = none := by
  simp [interfaceRefusal, requestInRange, hh]

theorem plnClr_served : interfaceRefusal (.plnClr (p.val + 1)) = none := by
  simp [interfaceRefusal, requestInRange]

theorem plnSlots_served {i : Nat} {gs : List Slot} (hne : gs ≠ []) (hg : ∀ g ∈ gs, slotInRange g = true) (h1 : 1 ≤ i)
    (h17 : i + gs.length ≤ 17) : interfaceRefusal (.plnSlots (p.val + 1) i gs) = none := by
  have hl := List.length_pos_iff.2 hne
  cases gs with
  | nil => exact absurd rfl hne
  | cons g gs =>
    have hall : (g :: gs).all slotInRange = true := List.all_eq_true.2 hg
    have hi : within (1, 16) i = true := by simp [within]; omega
    simp only [interfaceRefusal, requestInRange, planInRange_succ, hi, hall, Bool.true_and]
    exact if_pos (decide_eq_true h17)

/-- Settles O48. -/
theorem headerWritesAndClears : Obligations.HeaderWritesAndClears :=
  ⟨fun _ _ _ hh ht hs hf => request_writePlan_applied ht (plnHeader_served hh) hs hf,
    fun _ _ ht hs hf => request_writePlan_applied ht plnClr_served hs hf⟩

/-- Settles O49. -/
theorem slotWritesAndPlansInUse : Obligations.SlotWritesAndPlansInUse := by
  refine ⟨fun p i gs s hne hg h1 h17 ht hs hf => ?_, fun p h i g c r s hh hg h1 h16 hc hr ht => ?_⟩
  · refine ⟨_, request_writePlan_applied ht (plnSlots_served hne hg h1 h17) hs hf, rfl, fun q hq => ?_, ?_⟩
    · have hv : p.val ≠ q.val := fun e => hq (Fin.ext e).symm
      simp [hv]
    · have hp : (s.plans.set p (withSlots i gs s.plans[p]))[p] = withSlots i gs s.plans[p] := by simp
      dsimp only
      rw [hp]
      exact ⟨rfl, rfl, rfl, storeSlots_getElem _ _ gs⟩
  · have served : ∃ f, exec c s = request r (writePlan (p.val + 1) f) s ∧ interfaceRefusal r = none := by
      simp only [List.mem_cons, List.not_mem_nil, or_false] at hc
      obtain rfl | rfl | rfl := hc <;> cases hr
      · exact ⟨_, rfl, plnHeader_served hh⟩
      · exact ⟨_, rfl, plnSlots_served (by simp) (by simpa using hg) h1 (by simp; omega)⟩
      · exact ⟨_, rfl, plnClr_served⟩
    obtain ⟨f, he, hi⟩ := served
    rw [he, request_writePlan ht hi]
    refine ⟨fun hs => ?_, fun hs hu => ?_⟩
    · rw [planRefusal, if_pos hs]
      rfl
    · rw [planRefusal_inUse hs hu]
      rfl

end Requests

/-! ## CHK -/

section Checks

variable {s : State} {p : PlanNo} {x : Plan} {h : Header} {i : Nat}

theorem exec_chk (ht : taken (.chk (p.val + 1)) s) : exec (.chk (p.val + 1)) s = .next
    (if s.store.saving then answered (.chk (p.val + 1)) (noFor "BUSY" []) s
     else match s.plans[p].state with
      | .empty => answered (.chk (p.val + 1)) (noFor "STATE" []) s
      | .valid => answered (.chk (p.val + 1)) okPlain s
      | .draft => match planFault s.plans[p] with
        | some item => answered (.chk (p.val + 1)) (noFor "PLAN" item) s
        | none => { answered (.chk (p.val + 1)) okPlain s with
            plans := s.plans.set p { s.plans[p] with state := .valid } }) := by
  refine (request_served ht (by simp [interfaceRefusal, requestInRange])).trans (congrArg _ ?_)
  rw [checkPlan, planOf_succ]
  dsimp only
  simp only [answer_taking]
  cases s.plans[p].state with
  | empty | valid => rfl
  | draft =>
    cases planFault s.plans[p] with
    | some item => rfl
    | none => simp [answer, mapPlan]

theorem mem_positions {count : Nat} : i ∈ positions count ↔ 1 ≤ i ∧ i ≤ count := by
  rw [positions, List.mem_map]
  constructor
  · rintro ⟨j, hj, rfl⟩
    rw [List.mem_range] at hj
    omega
  · rintro ⟨h1, h2⟩
    exact ⟨i - 1, by rw [List.mem_range]; omega, by omega⟩

/-- The lowest position of a plan that a test picks out. -/
theorem find_positions {count : Nat} {q : Nat → Bool} (h1 : 1 ≤ i) (h2 : i ≤ count) (hi : q i = true)
    (hj : ∀ j, 1 ≤ j → j < i → q j = false) : (positions count).find? q = some i := by
  rw [positions, List.find?_map, Option.map_eq_some_iff]
  refine ⟨i - 1, List.find?_range_eq_some.2 ⟨?_, List.mem_range.2 (by omega), fun j hlt => ?_⟩, by omega⟩
  · simpa [Nat.sub_add_cancel h1] using hi
  · simp [hj (j + 1) (by omega) (by omega)]

theorem slotAt_isNone : (slotAt x i).isNone = true ↔ x.slots[i - 1]? = none ∨ x.slots[i - 1]? = some none := by
  rw [slotAt]
  cases x.slots[i - 1]? <;> simp

theorem slotAt_target {v : Target} : (slotAt x i).map Slot.target = some v
    ↔ ∃ y, x.slots[i - 1]? = some (some y) ∧ y.target = v := by
  rw [slotAt]
  cases x.slots[i - 1]? with
  | none => simp
  | some y => simp

/-- Check 2 of R47. -/
theorem planFault_undefined (hh : x.header = some h) (h1 : 1 ≤ i) (h2 : i ≤ h.count) (hi : (slotAt x i).isNone = true)
    (hj : ∀ j, 1 ≤ j → j < i → (slotAt x j).isNone = false) : planFault x = some [word "SLOT", decimal i] := by
  have hfind := find_positions (q := fun i => (slotAt x i).isNone) h1 h2 hi hj
  rw [planFault, hh]
  dsimp only
  rw [hfind]

/-- Checks 3 and 4 of R47, on a plan whose slots are all defined. -/
theorem planFault_defined (hh : x.header = some h) (hd : ∀ i, 1 ≤ i → i ≤ h.count → (slotAt x i).isNone = false) :
    planFault x = if h.kind = .start then
      if (positions h.count).any fun i => (slotAt x i).map Slot.target = some .resume then some [word "RESUME"]
      else if (slotAt x 1).map Slot.target = some (.speed 0) then some [word "SLOT", decimal 1] else none
    else none := by
  have hfind : (positions h.count).find? (fun i => (slotAt x i).isNone) = none := by
    refine List.find?_eq_none.2 fun i hi => ?_
    obtain ⟨h1, h2⟩ := mem_positions.1 hi
    simp [hd i h1 h2]
  rw [planFault, hh]
  dsimp only
  rw [hfind]

/-- Settles O50. -/
theorem chkAnswersByItsChecks : Obligations.ChkAnswersByItsChecks := by
  refine ⟨fun p s ht => ?_, fun x => ⟨fun hn => ?_, fun h hh hcount => ⟨?_, fun hdef => ?_⟩⟩⟩
  · rw [exec_chk ht]
    refine ⟨fun hs => by rw [if_pos hs]; rfl, fun hs => ?_⟩
    rw [hs]
    refine ⟨fun hst => ?_, fun hst => ?_, fun hst hf => ?_, fun hst item hf => ?_⟩
    · rw [hst]
      rfl
    · rw [hst]
      rfl
    · rw [hst, hf]
      rfl
    · rw [hst, hf]
      rfl
  · rw [planFault, hn]
  · intro i h1 h2 hi hj
    exact planFault_undefined hh h1 h2 (slotAt_isNone.2 hi) fun j hj1 hj2 =>
      Bool.eq_false_iff.2 fun e => hj j hj1 hj2 (slotAt_isNone.1 e)
  · have hres : ((positions h.count).any fun i => (slotAt x i).map Slot.target = some .resume) = true
        ↔ ∃ i, 1 ≤ i ∧ i ≤ h.count ∧ ∃ y, x.slots[i - 1]? = some (some y) ∧ y.target = .resume := by
      simp only [List.any_eq_true, mem_positions, decide_eq_true_eq, slotAt_target, and_assoc]
    rw [planFault_defined hh fun i h1 h2 => Bool.eq_false_iff.2 fun e => hdef i h1 h2 (slotAt_isNone.1 e)]
    refine ⟨fun hk hr => ?_, fun hk hr h0 => ?_, fun hno => ?_⟩
    · rw [if_pos hk, if_pos (hres.2 hr)]
    · rw [if_pos hk, if_neg, if_pos (slotAt_target.2 h0)]
      · rfl
      · rw [hres]
        exact fun ⟨i, h1, h2, hi⟩ => hr i h1 h2 hi
    · by_cases hk : h.kind = .start
      · obtain ⟨hr, h0⟩ := hno.resolve_left (not_not.2 hk)
        rw [if_pos hk, if_neg, if_neg]
        · exact fun e => h0 (slotAt_target.1 e)
        · rw [hres]
          exact fun ⟨i, h1, h2, hi⟩ => hr i h1 h2 hi
      · rw [if_neg hk]

end Checks

/-! ## Reads -/

section Reads

variable {r : Request} {s : State}

/-- A read answers from the state as it stands and changes the line alone (R179). -/
theorem request_readOnly {f : State → Reply} {reply : Reply} (ht : taken r s) (hr : interfaceRefusal r = none)
    (hf : f { s with line := lineTaking r s.line } = reply) : request r (readOnly f) s = .next (answered r reply s) := by
  rw [request_served ht hr, readOnly, hf, answer_taking]

theorem optional_map {α β : Type} (f : β → Text) (g : α → β) (o : Option α) :
    optional f (o.map g) = optional (fun a => f (g a)) o := by
  cases o <;> rfl

theorem listFields_map {α : Type} (f : α → Text) (l : List α) :
    listFields (l.map f) = decimal l.length :: l.map f := by
  rw [listFields, List.length_map]

theorem joinColon_pair (a b : Text) : joinColon [a, b] = a ++ word ":" ++ b := by
  simp [joinColon, word]

/-- A log's First record, or NONE, and its Next set (R162). -/
theorem logFields_eq {ρ : Type} (fields : ρ → List Text) (l : Log ρ) : logFields fields l
    = l.first.elim [word "NONE"] fields ++ decimal l.next.length
      :: l.next.map (fun e => decimal (kindNumber e.kind) ++ word ":" ++ yn e.mark) := by
  simp only [← joinColon_pair, ← listFields_map]
  unfold logFields
  cases l.first <;> rfl

theorem nameText_eq (t : Text) : nameText t = if t = [] then word "-" else t := by
  simp [nameText]

/-- Settles O45. -/
theorem strandAndPlanReadsReportTheState : Obligations.StrandAndPlanReadsReportTheState := by
  refine ⟨fun n s => ⟨fun ht => ?_, fun ht => ?_, fun ht => ?_⟩,
    fun p i s => ⟨fun ht => ?_, fun ht => ?_, fun ht => ?_, fun ht => ?_⟩⟩
  · refine request_readOnly ht (by simp [interfaceRefusal, requestInRange]) ?_
    rw [strandReply, strandOf_succ]
    simp only [optional_map, ← listFields_map]
    rfl
  · refine request_readOnly ht (by simp [interfaceRefusal, requestInRange, logSelInRange]) ?_
    simp only [logReply, strandOf_succ, logFields_eq]
    cases s.strands[n].log.first <;> rfl
  · refine request_readOnly ht rfl ?_
    simp only [logReply, logFields_eq]
    cases s.plantLog.first with
    | none => rfl
    | some r =>
      simp only [Option.elim_some, plantRecordFields, listFields_map]
      rfl
  · refine request_readOnly ht (by simp [interfaceRefusal, requestInRange, planSelInRange]) ?_
    simp only [planReply, planOf_succ, ← nameText_eq]
    cases s.plans[p].header <;> rfl
  · have hi : within (1, 16) (i.val + 1) = true := by simp [within]
    refine request_readOnly ht (by simp [interfaceRefusal, requestInRange, planSelInRange, hi]) ?_
    have hs : s.plans[p].slots[i.val]? = some s.plans[p].slots[i] := by simp
    simp only [slotReply, planOf_succ, Nat.add_sub_cancel, hs, Option.getD_some]
    cases s.plans[p].slots[i] <;> rfl
  · exact request_readOnly ht rfl rfl
  · have hi : within (1, 16) (i.val + 1) = true := by simp [within]
    refine request_readOnly ht (by simp [interfaceRefusal, requestInRange, planSelInRange, hi]) ?_
    by_cases h0 : i = 0
    · subst h0
      rfl
    · have hv : i.val + 1 ≠ 1 := fun e => h0 (Fin.ext (Nat.succ.inj e))
      rw [slotReply, if_neg hv, if_neg h0]
      rfl

end Reads

end Sys2Proof.Machine
end

section
/-! PROOF. The rising edge of NEW_SEATED: the TUNDISH restarts it begins, and the sample that gives both edges (R51, R52,
R118 to R124). -/

namespace Sys2Proof.Machine

open Sys2Proof

/-! ## The TUNDISH restart at one strand -/

section Tundish

variable {n : Strand} {s t : State} {r : PlanRef}

theorem raise_block (n : Strand) (k : Kind) (s : State) : (raise n k s).strands[n] = { s.strands[n] with
    log := logRecord s.strands[n].log (strandRecord s n k (observed s n)) k (alarmOf s.cfg k) } := raise_val n s k

theorem noteNoPlan_fallback (n : Strand) (s : State) : noteNoPlan n .fallback s = raise n .noPlan s := if_pos rfl

theorem noteNoPlan_plan (n : Strand) (p : PlanNo) (rev : Nat) (s : State) : noteNoPlan n (.plan p rev) s = s :=
  if_neg nofun

/-- The plan a TUNDISH or DIP restart begins under: number `k` at its current revision where it is usable, else plan F
(R51, R52). -/
abbrev chosenPlan (s : State) (k : Nat) (kind : RestartKind) : PlanRef := (usableRef s k kind).getD .fallback

theorem chosenPlan_congr (h : t.plans = s.plans) (k : Nat) (kind : RestartKind) :
    chosenPlan t k kind = chosenPlan s k kind := by
  unfold chosenPlan usableRef usable
  rw [h]

/-- Number `k` names no plan that is VALID and of the kind. -/
abbrev noUsable (s : State) (k : Nat) (kind : RestartKind) : Prop :=
  ∀ (p : PlanNo) (h : Header), k = p.val + 1 → s.plans[p].state = .valid → s.plans[p].header = some h → h.kind ≠ kind

theorem chosenPlan_usable {p : PlanNo} {h : Header} {k : Nat} {kind : RestartKind} (hk : k = p.val + 1)
    (hv : s.plans[p].state = .valid) (hh : s.plans[p].header = some h) (hkind : h.kind = kind) :
    chosenPlan s k kind = .plan p s.plans[p].rev := by
  rw [chosenPlan, usableRef_eq_some.2 ⟨p, hk, hv, ⟨h, hh, hkind⟩, rfl⟩]
  rfl

theorem chosenPlan_none {k : Nat} {kind : RestartKind} (h : noUsable s k kind) : chosenPlan s k kind = .fallback := by
  cases hu : usableRef s k kind with
  | none => rw [chosenPlan, hu]; rfl
  | some r =>
    obtain ⟨p, hk, hv, ⟨hd, hh, hkind⟩, -⟩ := usableRef_eq_some.1 hu
    exact absurd hkind (h p hd hk hv hh)

/-- The choice of R51 and R52. -/
theorem chosenPlan_cases (s : State) (k : Nat) (kind : RestartKind) :
    (∃ (p : PlanNo) (h : Header), k = p.val + 1 ∧ s.plans[p].state = .valid ∧ s.plans[p].header = some h ∧ h.kind = kind
        ∧ chosenPlan s k kind = .plan p s.plans[p].rev)
      ∨ (noUsable s k kind ∧ chosenPlan s k kind = .fallback) := by
  by_cases h : noUsable s k kind
  · exact .inr ⟨h, chosenPlan_none h⟩
  · simp only [noUsable, not_forall, not_not] at h
    obtain ⟨p, hd, hk, hv, hh, hkind⟩ := h
    exact .inl ⟨p, hd, hk, hv, hh, hkind, chosenPlan_usable hk hv hh hkind⟩

/-- The block a TUNDISH restart under `r` leaves, but for the record of NO_PLAN (R118, R119, R79). -/
def tundishBlock (r : PlanRef) (lt : Nat) (b : Block) : Block :=
  openLoop lt { b with
    ctx := { restartCtx .tundish r b.ctx with
      state := if b.ctx.state = .change then .fill else b.ctx.state
      freezeReturn := if b.ctx.state = .change then b.ctx.freezeReturn else some .fill } }

theorem tundishBlock_eq {b : Block} (h : stopsAtOverrun b.ctx = true) (lt : Nat) : tundishBlock r lt b = { b with
    refilled := 0
    ctx := { b.ctx with
      state := if b.ctx.state = .change then .fill else .frozen
      freezeReturn := if b.ctx.state = .change then b.ctx.freezeReturn else some .fill
      kind := some .tundish, plan := some r, extremes := none, timer := 0, timeoutNoted := false
      mode := .closed, integrator := 0, levelTarget := lt } } := by
  obtain h | ⟨h, -⟩ := stopsAtOverrun_iff.1 h <;> simp [tundishBlock, openLoop, restartCtx, h]

theorem beginTundish_eq (h : chosenPlan s s.cfg.strands[n].deft .tundish = r) :
    beginTundish n s = noteNoPlan n r (mapBlock n (tundishBlock r (planFill s n r)) s) := by
  subst h
  unfold beginTundish mapCtx
  dsimp only
  rw [mapBlock_mapBlock]
  rfl

theorem beginTundish_plan {p : PlanNo} {rev : Nat} (h : chosenPlan s s.cfg.strands[n].deft .tundish = .plan p rev)
    {hd : Header} (hh : s.plans[p].header = some hd) :
    (beginTundish n s).strands[n] = tundishBlock (.plan p rev) hd.fill s.strands[n] := by
  rw [beginTundish_eq h, noteNoPlan_plan, mapBlock_same, planFill, headerOf_eq hh]

theorem beginTundish_fallback (h : chosenPlan s s.cfg.strands[n].deft .tundish = .fallback) :
    ∃ q, q.kind = .noPlan ∧ q.state = (tundishBlock .fallback s.strands[n].force.lnorm s.strands[n]).ctx.state
      ∧ q.restart = some .tundish ∧ q.plan = some .fallback
      ∧ (beginTundish n s).strands[n] = { tundishBlock .fallback s.strands[n].force.lnorm s.strands[n] with
          log := logRecord s.strands[n].log q .noPlan (alarmOf s.cfg .noPlan) } := by
  rw [beginTundish_eq h, noteNoPlan_fallback, raise_block, mapBlock_same, planFill, lnormOf]
  refine ⟨_, rfl, ?_, ?_, ?_, rfl⟩ <;> simp only [strandRecord, ctxOf_mapBlock] <;> rfl

/-- The reference and level target with which a strand begins its TUNDISH restart, and the record it makes (R51, R52,
R118). -/
abbrev tundishPlan (s : State) (n : Strand) (b : Block) (r : PlanRef) : Prop :=
  (∀ (p : PlanNo) (h : Header), s.cfg.strands[n].deft = p.val + 1 → s.plans[p].state = .valid →
      s.plans[p].header = some h → h.kind = .tundish →
      r = .plan p s.plans[p].rev ∧ b.ctx.levelTarget = h.fill ∧ b.log = s.strands[n].log)
    ∧ (noUsable s s.cfg.strands[n].deft .tundish →
      r = .fallback ∧ b.ctx.levelTarget = s.strands[n].force.lnorm
        ∧ ∃ q, q.kind = .noPlan ∧ q.state = b.ctx.state ∧ q.restart = some .tundish ∧ q.plan = some .fallback
            ∧ b.log = logRecord s.strands[n].log q .noPlan (alarmOf s.cfg .noPlan))

/-- The block of strand `n` once its TUNDISH restart has begun (R118, R119, R79). -/
def tundishBegun (s : State) (n : Strand) (b : Block) : Prop :=
  ∃ r, b = { s.strands[n] with
      log := b.log, refilled := 0
      ctx := { ctxOf s n with
        state := if (ctxOf s n).state = .change then .fill else .frozen
        freezeReturn := if (ctxOf s n).state = .change then (ctxOf s n).freezeReturn else some .fill
        kind := some .tundish, plan := some r, extremes := none, timer := 0, timeoutNoted := false
        mode := .closed, integrator := 0, levelTarget := b.ctx.levelTarget } }
    ∧ tundishPlan s n b r

/-- The part of a seated edge at a strand with CHANGE to end, in a state that other strands' parts may have changed. -/
theorem beginTundish_begun (hp : t.plans = s.plans) (hc : t.cfg = s.cfg) (hb : t.strands[n] = s.strands[n])
    (hst : stopsAtOverrun (ctxOf s n) = true) : tundishBegun s n (beginTundish n t).strands[n] := by
  have hchosen : chosenPlan t t.cfg.strands[n].deft .tundish = chosenPlan s s.cfg.strands[n].deft .tundish := by
    rw [hc, chosenPlan_congr hp]
  obtain ⟨p, h, hd, hv, hh, hk, hr⟩ | ⟨hno, hr⟩ := chosenPlan_cases s s.cfg.strands[n].deft .tundish
  · rw [beginTundish_plan (hchosen.trans hr) (hd := h) (by rw [hp, hh]), hb, tundishBlock_eq hst]
    refine ⟨_, rfl, fun q g hq _ hg _ => ?_, fun hnone => absurd hk (hnone p h hd hv hh)⟩
    obtain rfl : q = p := Fin.ext (Nat.succ.inj (hq.symm.trans hd))
    obtain rfl : g = h := Option.some.inj (hg.symm.trans hh)
    exact ⟨rfl, rfl, rfl⟩
  · obtain ⟨q, hqk, hqs, hqr, hqp, hblock⟩ := beginTundish_fallback (hchosen.trans hr)
    rw [hb] at hqs hblock
    rw [tundishBlock_eq hst] at hqs hblock
    rw [hblock]
    exact ⟨_, rfl, fun p h hd hv hh hk => absurd hk (hno p h hd hv hh),
      fun _ => ⟨rfl, rfl, q, hqk, hqs, hqr, hqp, by rw [hc]⟩⟩

end Tundish

/-! ## The coordinator apart -/

/-- `s` with the coordinator `k`. -/
def withCoord (k : Coordinator) (s : State) : State := { s with coord := k }

section Coord

variable {n : Strand} {s : State} {k : Coordinator}

theorem leaveFor_withCoord (next : StrandState) : leaveFor n next (withCoord k s) = withCoord k (leaveFor n next s) := by
  have hc : ctxOf (withCoord k s) n = ctxOf s n := rfl
  unfold leaveFor
  dsimp only
  rw [hc]
  split
  · rfl
  · split <;> rfl

/-- Change begin reads nothing of the coordinator (R113). -/
theorem changeBeginAt_withCoord : changeBeginAt n (withCoord k s) = withCoord k (changeBeginAt n s) := by
  have enter : enterChange n (withCoord k s) = withCoord k (enterChange n s) := by
    rw [enterChange, leaveFor_withCoord]
    rfl
  have hc : ctxOf (withCoord k s) n = ctxOf s n := rfl
  unfold changeBeginAt
  rw [hc]
  cases (ctxOf s n).state with
  | fill | dwell | waitPermit | ramp | cast | held => exact enter
  | idle | change | stopping | tripped => rfl
  | frozen =>
    dsimp only
    split <;> rfl

/-- An event's parts that read nothing of the coordinator leave it as it is. -/
theorem forEach_withCoord {f : Strand → State → State} (hf : ∀ n s, f n (withCoord k s) = withCoord k (f n s))
    (s : State) : forEach f (withCoord k s) = withCoord k (forEach f s) := by
  unfold forEach
  generalize allStrands = l
  induction l generalizing s with
  | nil => rfl
  | cons m l ih => rw [List.foldl_cons, hf, ih, List.foldl_cons]

theorem beginTundish_withCoord : beginTundish n (withCoord k s) = withCoord k (beginTundish n s) := by
  have hr : chosenPlan (withCoord k s) (withCoord k s).cfg.strands[n].deft .tundish
      = chosenPlan s s.cfg.strands[n].deft .tundish := rfl
  rw [beginTundish_eq hr, beginTundish_eq rfl]
  cases chosenPlan s s.cfg.strands[n].deft .tundish with
  | plan p rev => rw [noteNoPlan_plan, noteNoPlan_plan]; rfl
  | fallback => rw [noteNoPlan_fallback, noteNoPlan_fallback]; rfl

/-- New tundish seated reads nothing of the coordinator at a strand (R118). -/
theorem seatedAt_withCoord : seatedAt n (withCoord k s) = withCoord k (seatedAt n s) := by
  have hc : ctxOf (withCoord k s) n = ctxOf s n := rfl
  unfold seatedAt
  rw [hc, beginTundish_withCoord]
  split <;> rfl

/-- The coordinator as the rising edge of CHANGE_BEGIN leaves it in NO_CHANGE (R113). -/
abbrev changingCoord (c : Cfg) (k : Coordinator) : Coordinator :=
  { k with state := .changing, window := some (c.plant.tchange * 1000) }

/-- The coordinator as the rising edge of NEW_SEATED leaves it in CHANGING (R118). -/
abbrev seatedCoord (k : Coordinator) : Coordinator := { k with state := .noChange, window := none }

theorem beginEdge_noChange (h : k.state = .noChange) :
    beginEdge (withCoord k s) = withCoord (changingCoord s.cfg k) (forEach changeBeginAt s) := by
  rw [← forEach_withCoord fun _ _ => changeBeginAt_withCoord]
  exact if_pos h

theorem beginEdge_changing (h : k.state = .changing) : beginEdge (withCoord k s) = withCoord k s :=
  if_neg (by simp [withCoord, h])

theorem seatedEdge_changing (h : k.state = .changing) :
    seatedEdge (withCoord k s) = withCoord (seatedCoord k) (forEach seatedAt s) := by
  rw [← forEach_withCoord fun _ _ => seatedAt_withCoord]
  exact if_pos h

theorem seatedEdge_noChange (h : k.state = .noChange) (hs : s.coord.state = .noChange) :
    seatedEdge (withCoord k s) = withCoord k (raisePlant .carSequence [] s) := by
  refine (if_neg (by simp [withCoord, h])).trans ?_
  simp [raisePlant, withCoord, h, hs]

/-! ## Samples of the car lines -/

theorem exec_carLines (h : s.phase = .running) (b w f : Bool) :
    exec (.carLineSampling b w f) (withCoord k s) = .next (sampleCar b w f (withCoord k s)) := congrArg _ (if_pos h)

/-- The coordinator once a sample has been taken on both lines (R111, R121). -/
abbrev sampledCoord (b w : LineStep) (k : Coordinator) : Coordinator :=
  { k with window := tenLess k.window, takenBegin := b.taken, runBegin := b.run, takenSeated := w.taken, runSeated := w.run }

theorem sampleCar_withCoord {b w f : Bool} {x y : LineStep} (hb : lineStep b k.takenBegin k.runBegin = x)
    (hw : lineStep w k.takenSeated k.runSeated = y) : sampleCar b w f (withCoord k s)
      = if f then onEdge x.rising beginEdge (onEdge y.rising seatedEdge (withCoord (sampledCoord x y k) s))
        else onEdge y.rising seatedEdge (onEdge x.rising beginEdge (withCoord (sampledCoord x y k) s)) := by
  subst hb hw
  rfl

/-- A sample that takes the rising edge of NEW_SEATED and none of CHANGE_BEGIN, in either order. -/
theorem exec_onlySeated {f : Bool} (h : s.phase = .running) (hs : k.takenSeated = false) (hr : k.runSeated = 2) :
    exec (.carLineSampling k.takenBegin true f) (withCoord k s)
      = .next (seatedEdge (withCoord (sampledCoord ⟨k.takenBegin, 0, false⟩ ⟨true, 0, true⟩ k) s)) := by
  rw [exec_carLines h, sampleCar_withCoord (lineStep_same _ _) (by rw [hs, hr, lineStep_rises])]
  cases f <;> rfl

/-- A sample that takes the rising edge of CHANGE_BEGIN and none of NEW_SEATED, in either order. -/
theorem exec_onlyBegin {f : Bool} (h : s.phase = .running) (hb : k.takenBegin = false) (hr : k.runBegin = 2) :
    exec (.carLineSampling true k.takenSeated f) (withCoord k s)
      = .next (beginEdge (withCoord (sampledCoord ⟨true, 0, true⟩ ⟨k.takenSeated, 0, false⟩ k) s)) := by
  rw [exec_carLines h, sampleCar_withCoord (by rw [hb, hr, lineStep_rises]) (lineStep_same _ _)]
  cases f <;> rfl

/-- A sample that takes both rising edges is the one edge and then the other (R124). -/
theorem exec_bothEdges {f : Bool} (h : s.phase = .running) (hb : k.takenBegin = false) (hrb : k.runBegin = 2)
    (hs : k.takenSeated = false) (hrs : k.runSeated = 2) : exec (.carLineSampling true true f) (withCoord k s)
      = .next (if f then beginEdge (seatedEdge (withCoord (sampledCoord ⟨true, 0, true⟩ ⟨true, 0, true⟩ k) s))
          else seatedEdge (beginEdge (withCoord (sampledCoord ⟨true, 0, true⟩ ⟨true, 0, true⟩ k) s))) := by
  rw [exec_carLines h, sampleCar_withCoord (by rw [hb, hrb, lineStep_rises]) (by rw [hs, hrs, lineStep_rises])]
  cases f <;> rfl

end Coord

/-! ## The strands at an edge -/

section Edges

variable {n : Strand} {s u : State}

theorem forEach_phase {f : Strand → State → State} (hf : ∀ m t, StrandOnly m t (f m t)) (s : State) :
    (forEach f s).phase = s.phase := by
  rw [forEach_rest hf s]

theorem forEach_plantLog {f : Strand → State → State} (hf : ∀ m t, StrandOnly m t (f m t)) (s : State) :
    (forEach f s).plantLog = s.plantLog := by
  rw [forEach_rest hf s]

theorem seatedAt_arb (n : Strand) (s : State) : (seatedAt n s).arb = s.arb := by
  unfold seatedAt
  split
  · rw [beginTundish_eq rfl]
    cases chosenPlan s s.cfg.strands[n].deft .tundish with
    | plan p rev => rw [noteNoPlan_plan]; rfl
    | fallback => rw [noteNoPlan_fallback]; rfl
  · rfl

theorem forEach_seated_begun (h : stopsAtOverrun (ctxOf s n) = true) :
    tundishBegun s n (forEach seatedAt s).strands[n] := by
  refine forEach_block (f := seatedAt) (s := s) (n := n) seatedAt_only (Q := tundishBegun s n) fun t hr hb => ?_
  have hst : stopsAtOverrun (ctxOf t n) = true := by rwa [ctxOf, hb]
  rw [seatedAt, if_pos hst]
  exact beginTundish_begun (by rw [hr]) (by rw [hr]) hb h

theorem forEach_seated_none (h : ¬ stopsAtOverrun (ctxOf s n) = true) :
    (forEach seatedAt s).strands[n] = s.strands[n] := by
  refine forEach_part seatedAt_only rfl fun t _ hb => ?_
  have hst : ¬ stopsAtOverrun (ctxOf t n) = true := by rwa [ctxOf, hb]
  rw [seatedAt, if_neg hst, hb]

/-- The six states of R23, from which change begin takes a strand into CHANGE. -/
abbrev runsOn (c : Ctx) : Prop :=
  c.state = .fill ∨ c.state = .dwell ∨ c.state = .waitPermit ∨ c.state = .ramp ∨ c.state = .cast ∨ c.state = .held

theorem forEach_changeBegin_enters (h : runsOn (ctxOf s n)) (hu : u.strands[n] = s.strands[n]) :
    ctxOf (forEach changeBeginAt u) n = { joinChange (ctxOf s n) with
      state := .change, lag := 0, permit := permitAfter (ctxOf s n) .change } := by
  have hb : (forEach changeBeginAt u).strands[n] = { s.strands[n] with
      ctx := { joinChange (ctxOf s n) with state := .change, lag := 0, permit := permitAfter (ctxOf s n) .change }
      outStopper := 0 } := by
    refine forEach_part changeBeginAt_only hu fun t _ ht => ?_
    have hc : ctxOf t n = ctxOf s n := congrArg Block.ctx ht
    rw [changeBeginAt_enters (hc.symm ▸ h), enterChange_block, hc, ht]
  rw [ctxOf, hb]

/-- Begin first, then seated: the strand ends in FILL on a TUNDISH restart with setpoint and resume speed kept. -/
theorem begin_then_seated (h : runsOn (ctxOf s n)) :
    let c := ctxOf (forEach seatedAt (forEach changeBeginAt s)) n
    c.state = .fill ∧ c.kind = some .tundish ∧ c.speed = (ctxOf s n).speed
      ∧ c.resume = some ((ctxOf s n).resume.getD (ctxOf s n).speed) := by
  have hc := forEach_changeBegin_enters h (rfl : s.strands[n] = s.strands[n])
  have hst : stopsAtOverrun (ctxOf (forEach changeBeginAt s) n) = true := by rw [hc]; rfl
  obtain ⟨r, hb, -⟩ := forEach_seated_begun hst
  have hb := congrArg Block.ctx hb
  rw [hc] at hb
  dsimp only at hb ⊢
  rw [ctxOf, hb, ← takeResume_eq]
  exact ⟨rfl, rfl, rfl, rfl⟩

end Edges

/-! ## Both edges in one sample (R124) -/

section Both

variable {s : State}

/-- The coordinator as a sample with both rising edges finds it once it has taken both lines. -/
abbrev bothCoord (k : Coordinator) : Coordinator := sampledCoord ⟨true, 0, true⟩ ⟨true, 0, true⟩ k

/-- What a sample with both edges finds on the lines: both about to be taken as asserted. -/
structure BothDue (s : State) : Prop where
  running   : s.phase = .running
  begins    : s.coord.takenBegin = false
  runBegin  : s.coord.runBegin = 2
  seats     : s.coord.takenSeated = false
  runSeated : s.coord.runSeated = 2

theorem BothDue.beginFirst (h : BothDue s) :
    exec (.carLineSampling true true false) s = .next (seatedEdge (beginEdge (withCoord (bothCoord s.coord) s))) :=
  exec_bothEdges (f := false) (k := s.coord) h.running h.begins h.runBegin h.seats h.runSeated

theorem BothDue.seatedFirst (h : BothDue s) :
    exec (.carLineSampling true true true) s = .next (beginEdge (seatedEdge (withCoord (bothCoord s.coord) s))) :=
  exec_bothEdges (f := true) (k := s.coord) h.running h.begins h.runBegin h.seats h.runSeated

/-- Begin first is a sample with the edge of CHANGE_BEGIN, and then one with that of NEW_SEATED. -/
theorem BothDue.beginFirst_splits (h : BothDue s) : ∃ u, exec (.carLineSampling true false false) s = .next u
    ∧ ∀ f : Bool, exec (.carLineSampling true true false) s
        = exec (.carLineSampling true true f) { u with coord := { u.coord with runSeated := 2 } } := by
  have first := exec_onlyBegin (f := false) (k := s.coord) h.running h.begins h.runBegin
  rw [h.seats] at first
  have hF : (forEach changeBeginAt s).phase = .running := (forEach_phase changeBeginAt_only s).trans h.running
  refine ⟨_, first, fun f => h.beginFirst.trans ?_⟩
  cases hst : s.coord.state with
  | noChange =>
    rw [beginEdge_noChange (k := bothCoord s.coord) hst,
      beginEdge_noChange (k := sampledCoord ⟨true, 0, true⟩ ⟨false, 0, false⟩ s.coord) hst]
    generalize forEach changeBeginAt s = g at hF ⊢
    rw [seatedEdge_changing rfl]
    refine Eq.symm ((exec_onlySeated (k := { changingCoord s.cfg (sampledCoord ⟨true, 0, true⟩ ⟨false, 0, false⟩ s.coord)
      with runSeated := 2 }) hF rfl rfl).trans ?_)
    rw [seatedEdge_changing rfl]
  | changing =>
    rw [beginEdge_changing (k := bothCoord s.coord) hst,
      beginEdge_changing (k := sampledCoord ⟨true, 0, true⟩ ⟨false, 0, false⟩ s.coord) hst,
      seatedEdge_changing (k := bothCoord s.coord) hst]
    refine Eq.symm ((exec_onlySeated (k := { sampledCoord ⟨true, 0, true⟩ ⟨false, 0, false⟩ s.coord
      with runSeated := 2 }) h.running rfl rfl).trans ?_)
    exact congrArg Host.Outcome.next (seatedEdge_changing hst)

/-- Seated first is a sample with the edge of NEW_SEATED, and then one with that of CHANGE_BEGIN. -/
theorem BothDue.seatedFirst_splits (h : BothDue s) : ∃ u, exec (.carLineSampling false true false) s = .next u
    ∧ ∀ f : Bool, exec (.carLineSampling true true true) s
        = exec (.carLineSampling true true f) { u with coord := { u.coord with runBegin := 2 } } := by
  have first := exec_onlySeated (f := false) (k := s.coord) h.running h.seats h.runSeated
  rw [h.begins] at first
  have hG : (forEach seatedAt s).phase = .running := (forEach_phase seatedAt_only s).trans h.running
  refine ⟨_, first, fun f => h.seatedFirst.trans ?_⟩
  cases hst : s.coord.state with
  | noChange =>
    rw [seatedEdge_noChange (k := bothCoord s.coord) hst hst, beginEdge_noChange (k := bothCoord s.coord) hst,
      seatedEdge_noChange (k := sampledCoord ⟨false, 0, false⟩ ⟨true, 0, true⟩ s.coord) hst hst]
    have hP : (raisePlant .carSequence [] s).phase = .running := h.running
    generalize raisePlant .carSequence [] s = g at hP ⊢
    refine Eq.symm ((exec_onlyBegin (k := { sampledCoord ⟨false, 0, false⟩ ⟨true, 0, true⟩ s.coord
      with runBegin := 2 }) hP rfl rfl).trans ?_)
    exact congrArg Host.Outcome.next (beginEdge_noChange hst)
  | changing =>
    rw [seatedEdge_changing (k := bothCoord s.coord) hst,
      seatedEdge_changing (k := sampledCoord ⟨false, 0, false⟩ ⟨true, 0, true⟩ s.coord) hst]
    generalize forEach seatedAt s = g at hG ⊢
    rw [beginEdge_noChange rfl]
    refine Eq.symm ((exec_onlyBegin (k := { seatedCoord (sampledCoord ⟨false, 0, false⟩ ⟨true, 0, true⟩ s.coord)
      with runBegin := 2 }) hG rfl rfl).trans ?_)
    rw [beginEdge_noChange rfl]

end Both

/-- Settles O33: each strand's part is the TUNDISH restart of the block the event found there; the parts read nothing of
the coordinator, so that a sample with both edges is one edge and then the other. -/
theorem seatedBeginsTundishRestarts : Obligations.SeatedBeginsTundishRestarts := by
  refine ⟨fun f s h hc hs hr => ?_, fun s h hb hrb hs hrs => ?_⟩
  · have hexec := (exec_onlySeated (f := f) h hs hr).trans (congrArg _ (seatedEdge_changing hc))
    have harb : (forEach seatedAt s).arb = s.arb :=
      forEach_keeps (P := fun t => t.arb = s.arb) (fun m t ht => (seatedAt_arb m t).trans ht) rfl
    have hrest := forEach_rest seatedAt_only s
    have begun (n : Strand) (hn) := forEach_seated_begun (s := s) (n := n) (stopsAtOverrun_iff.2 hn)
    have none (n : Strand) (hn) := forEach_seated_none (s := s) (n := n) (mt stopsAtOverrun_iff.1 hn)
    generalize forEach seatedAt s = g at hexec harb hrest begun none
    refine ⟨_, hexec, ?_, fun n => ⟨begun n, fun hn hf => none n fun e => ?_⟩⟩
    · rw [hrest, harb]
      rfl
    · obtain e | ⟨e, e'⟩ := e
      · exact hn e
      · exact hf e e'
  · have due : BothDue s := ⟨h, hb, hrb, hs, hrs⟩
    refine ⟨due.beginFirst_splits, due.seatedFirst_splits, fun hst => ⟨?_, ?_⟩⟩
    · have hplant := (forEach_plantLog seatedAt_only _).trans (forEach_plantLog changeBeginAt_only s)
      have strands (n : Strand) := begin_then_seated (s := s) (n := n)
      have hexec := due.beginFirst
      rw [beginEdge_noChange (k := bothCoord s.coord) hst, seatedEdge_changing rfl] at hexec
      generalize forEach seatedAt (forEach changeBeginAt s) = g at hexec hplant strands
      exact ⟨_, hexec, rfl, hplant, strands⟩
    · have hplant := forEach_plantLog changeBeginAt_only (raisePlant .carSequence [] s)
      have strands (n : Strand) (hn : runsOn (ctxOf s n)) :=
        forEach_changeBegin_enters (u := raisePlant .carSequence [] s) hn rfl
      have hexec := due.seatedFirst
      rw [seatedEdge_noChange (k := bothCoord s.coord) hst hst, beginEdge_noChange (k := bothCoord s.coord) hst] at hexec
      generalize forEach changeBeginAt (raisePlant .carSequence [] s) = g at hexec hplant strands
      refine ⟨_, hexec, rfl, ?_, fun n hn => ?_⟩
      · rw [← hst]
        exact hplant
      · have hg := strands n hn
        exact ⟨congrArg Ctx.state hg, congrArg Ctx.kind hg⟩

end Sys2Proof.Machine
end

section
/-! PROOF. The settle expiry from SETTLING: what each FROZEN strand recovers into, and its entry in the queue (R70, R97,
R133, R139 to R141). -/

namespace Sys2Proof.Machine

open Sys2Proof

section Recovery

variable {n : Strand} {s t : State} {b : Block} {a : Arbiter} {al : Bool} {r : PlanRef} {g : FreezeReturn} {lt : Nat}
  {seen : Nat × Option Nat} {measured : Vector Nat 6}

/-! ## The DIP restart on a part -/

/-- The block with NO_PLAN recorded where the chosen plan `r` is plan F (R52). -/
def noPlanNoted (r : PlanRef) (c : Cfg) (time : Nat) (seen : Nat × Option Nat) (b : Block) : Block :=
  if r = .fallback then recordIn c time seen .noPlan b else b

@[simp] theorem noPlanNoted_ctx (c : Cfg) (time : Nat) : (noPlanNoted r c time seen b).ctx = b.ctx := by
  unfold noPlanNoted
  split <;> rfl

/-- The block with a DIP restart begun under `r` toward `lt` (R12, R140). -/
def dipStarted (r : PlanRef) (lt : Nat) (b : Block) : Block :=
  { b with ctx := { restartCtx .dip r b.ctx with levelTarget := lt } }

theorem noteNoPlan_withPart (hs : observed (withPart n b a al s) n = seen) : noteNoPlan n r (withPart n b a al s)
    = withPart n (noPlanNoted r s.cfg s.store.time seen b) a
        (al || (alarmOf s.cfg .noPlan && decide (r = .fallback))) s := by
  cases r with
  | plan p rev => simp [noteNoPlan_plan, noPlanNoted]
  | fallback => simp [noteNoPlan_fallback, raise_withPart hs, noPlanNoted]

theorem beginDip_withPart (hr : chosenPlan s s.cfg.strands[n].defd .dip = r)
    (hl : (planSlot (withPart n b a al s) n r 1).level = lt) (hs : observed (withPart n b a al s) n = seen) :
    beginDip n (withPart n b a al s)
      = withPart n (noPlanNoted r s.cfg s.store.time seen (dipStarted r lt b)) a
          (al || (alarmOf s.cfg .noPlan && decide (r = .fallback))) s := by
  have hr' : (usableRef (withPart n b a al s) (withPart n b a al s).cfg.strands[n].defd .dip).getD .fallback = r := hr
  have hs' : observed (withPart n (dipStarted r lt b) a al s) n = seen := by
    rw [← hs, observed, observed, withPart_block, withPart_block]
    rfl
  unfold beginDip
  dsimp only
  rw [hr', hl, mapCtx_withPart]
  exact noteNoPlan_withPart hs'

/-! ## Recovery at one strand -/

/-- The setpoint lowered to the measured speed (R70). -/
abbrev loweredTo (m : Nat) (c : Ctx) : Nat := min c.speed (min m 8000 * 16)

/-- The block that leaves FROZEN for `st` with its setpoint lowered and driven (R4, R70, R139). -/
def thawedBlock (m : Nat) (st : StrandState) (h : Option HoldReturn) (b : Block) : Block :=
  { b with
    outSpeed := (loweredTo m b.ctx + 8) / 16
    ctx := { b.ctx with
      state := st, freezeReturn := none, slot := none, target := none, speed := loweredTo m b.ctx, holdReturn := h } }

/-- The strand recovers on a DIP restart: frozen in RAMP or CAST, or held in RAMP (R140, R141). -/
abbrev recoversOnDip (g : FreezeReturn) (c : Ctx) : Prop :=
  g = .ramp ∨ g = .cast ∨ (g = .held ∧ c.holdReturn = some .ramp)

/-- The strand goes on in WAIT_PERMIT (R139, R140). -/
abbrev recoversIntoWait (g : FreezeReturn) : Prop := g = .waitPermit ∨ g = .ramp ∨ g = .cast

/-- The arbiter once a strand with freeze_return `g` and restart `kind` has recovered: its entry placed where it goes on
in WAIT_PERMIT (R96, R97). -/
def recoveredArb (n : Strand) (g : FreezeReturn) (kind : Option RestartKind) (time : Nat) (a : Arbiter) : Arbiter :=
  { a with queue := if recoversIntoWait g then
      place { strand := n, cls := if g = .waitPermit then classOf kind else 1, time := time } a.queue else a.queue }

theorem lowerSpeed_part (m : Nat) (n : Strand) (s : State) : lowerSpeed m n s
    = withPart n { s.strands[n] with
        ctx := { ctxOf s n with speed := loweredTo m (ctxOf s n) }
        outSpeed := (loweredTo m (ctxOf s n) + 8) / 16 } s.arb s.alarm s := rfl

theorem recoverAt_frozen (hf : (ctxOf s n).state = .frozen) (hg : (ctxOf s n).freezeReturn = some g) :
    recoverAt measured n s = recoverInto g n (lowerSpeed measured[n] n s) := by
  rw [recoverAt, hf, hg]

theorem recoverAt_untouched (h : (ctxOf s n).state ≠ .frozen ∨ (ctxOf s n).freezeReturn = none) :
    recoverAt measured n s = s := by
  unfold recoverAt
  split
  case h_1 hst hfr => exact h.elim (absurd hst) fun h => nomatch h.symm.trans hfr
  case h_2 => rfl

theorem thaw_part (m : Nat) (st : StrandState) (h : Option HoldReturn) (n : Strand) (s : State) :
    setHoldReturn n h (thawTo st n (lowerSpeed m n s))
      = withPart n (thawedBlock m st h s.strands[n]) s.arb s.alarm s := by
  rw [lowerSpeed_part, thawTo, mapCtx_withPart, setHoldReturn, mapCtx_withPart]
  rfl

theorem beginDip_thawed (hr : chosenPlan s s.cfg.strands[n].defd .dip = r) (m : Nat) (st : StrandState)
    (h : Option HoldReturn) : beginDip n (withPart n (thawedBlock m st h s.strands[n]) s.arb s.alarm s)
      = withPart n (noPlanNoted r s.cfg s.store.time (observed s n)
            (dipStarted r (planSlot s n r 1).level (thawedBlock m st h s.strands[n]))) s.arb
          (s.alarm || (alarmOf s.cfg .noPlan && decide (r = .fallback))) s := by
  refine beginDip_withPart hr ?_ (observed_withPart_sampled rfl)
  cases r with
  | plan p rev => rfl
  | fallback =>
    rw [planSlot_withPart_fallback]
    rfl

/-- A recovery that keeps the restart (R139). -/
theorem recoverAt_kept (hf : (ctxOf s n).state = .frozen) (hg : (ctxOf s n).freezeReturn = some g)
    (hd : ¬ recoversOnDip g (ctxOf s n)) : recoverAt measured n s
      = withPart n (thawedBlock measured[n] (freezeState g) (if g = .held then (ctxOf s n).holdReturn else none)
          s.strands[n]) (recoveredArb n g (ctxOf s n).kind s.store.time s.arb) s.alarm s := by
  rw [recoverAt_frozen hf hg]
  cases g with
  | ramp | cast => simp [recoversOnDip] at hd
  | fill | dwell | change => exact thaw_part ..
  | waitPermit =>
    rw [recoverInto, thaw_part, enqueue_withPart]
    rfl
  | held =>
    have hno : ¬ (ctxOf s n).holdReturn = some .ramp := fun e => hd (.inr (.inr ⟨rfl, e⟩))
    rw [lowerSpeed_part, recoverInto, recoverHeld, ctxOf_withPart, if_neg hno, thawTo, mapCtx_withPart]
    rfl

/-- The block of a strand that recovers on a DIP restart under `r` (R140, R141). -/
def dipRecovered (m : Nat) (g : FreezeReturn) (r : PlanRef) (lt : Nat) (b : Block) : Block :=
  dipStarted r lt (thawedBlock m (if g = .held then .held else .waitPermit)
    (if g = .held then some .waitPermit else none) b)

/-- A recovery on a DIP restart (R140, R141). -/
theorem recoverAt_dip (hf : (ctxOf s n).state = .frozen) (hg : (ctxOf s n).freezeReturn = some g)
    (hd : recoversOnDip g (ctxOf s n)) (hr : chosenPlan s s.cfg.strands[n].defd .dip = r) : recoverAt measured n s
      = withPart n (noPlanNoted r s.cfg s.store.time (observed s n)
            (dipRecovered measured[n] g r (planSlot s n r 1).level s.strands[n]))
          (recoveredArb n g (ctxOf s n).kind s.store.time s.arb)
          (s.alarm || (alarmOf s.cfg .noPlan && decide (r = .fallback))) s := by
  rw [recoverAt_frozen hf hg]
  obtain h | ⟨rfl, hh⟩ : (g = .ramp ∨ g = .cast) ∨ g = .held ∧ (ctxOf s n).holdReturn = some .ramp := or_assoc.2 hd
  · have hinto : recoverInto g n (lowerSpeed measured[n] n s)
        = enqueue n (beginDip n (setHoldReturn n none (thawTo .waitPermit n (lowerSpeed measured[n] n s)))) := by
      obtain rfl | rfl := h <;> rfl
    rw [hinto, thaw_part, beginDip_thawed hr, enqueue_withPart, noPlanNoted_ctx]
    obtain rfl | rfl := h <;> rfl
  · have hold : (ctxOf (lowerSpeed measured[n] n s) n).holdReturn = some .ramp := by rwa [lowerSpeed_part, ctxOf_withPart]
    rw [recoverInto, recoverHeld, if_pos hold, thaw_part, beginDip_thawed hr]
    rfl

/-! ## Queue and ALARM after the recoveries -/

abbrev frozenIn (c : Ctx) (g : FreezeReturn) : Bool := c.state = .frozen ∧ c.freezeReturn = some g

/-- `recoversOnDip` as a test of the context. -/
abbrev beginsDip (c : Ctx) : Bool :=
  frozenIn c .ramp || frozenIn c .cast || (frozenIn c .held && c.holdReturn = some .ramp)

/-- `recoversIntoWait` as a test of the context. -/
abbrev rejoins (c : Ctx) : Bool := frozenIn c .waitPermit || frozenIn c .ramp || frozenIn c .cast

theorem beginsDip_iff {c : Ctx} (hf : c.state = .frozen) (hg : c.freezeReturn = some g) :
    beginsDip c = true ↔ recoversOnDip g c := by
  simp [hf, hg, or_assoc]

theorem rejoins_iff {c : Ctx} (hf : c.state = .frozen) (hg : c.freezeReturn = some g) :
    rejoins c = true ↔ recoversIntoWait g := by
  simp [hf, hg, or_assoc]

theorem frozen_cases (c : Ctx) :
    (c.state ≠ .frozen ∨ c.freezeReturn = none) ∨ ∃ g, c.state = .frozen ∧ c.freezeReturn = some g := by
  by_cases hf : c.state = .frozen
  · cases hg : c.freezeReturn with
    | none => exact .inl (.inr rfl)
    | some g => exact .inr ⟨g, hf, rfl⟩
  · exact .inl (.inl hf)

theorem frozenIn_not {c : Ctx} (h : c.state ≠ .frozen ∨ c.freezeReturn = none) (g : FreezeReturn) :
    frozenIn c g = false := by
  obtain h | h := h <;> simp [h]

/-- The entry of strand `n`, whose context is `c`, placed when it recovers at the moment `time` (R96). -/
abbrev recoveredEntry (time : Nat) (n : Strand) (c : Ctx) : QEntry :=
  { strand := n, cls := if frozenIn c .waitPermit then classOf c.kind else 1, time := time }

/-- The queue once strand `n`, whose context is `c`, has recovered at the moment `time` (R97). -/
abbrev recoveredQueue (time : Nat) (n : Strand) (c : Ctx) (q : List QEntry) : List QEntry :=
  if rejoins c then place (recoveredEntry time n c) q else q

theorem recoverAt_arb (measured : Vector Nat 6) (n : Strand) (s : State) : (recoverAt measured n s).arb
    = { s.arb with queue := recoveredQueue s.store.time n (ctxOf s n) s.arb.queue } := by
  obtain h | ⟨g, hf, hg⟩ := frozen_cases (ctxOf s n)
  · simp [recoverAt_untouched h, recoveredQueue, rejoins, frozenIn_not h]
  · have harb : (recoverAt measured n s).arb = recoveredArb n g (ctxOf s n).kind s.store.time s.arb := by
      by_cases hd : recoversOnDip g (ctxOf s n)
      · rw [recoverAt_dip hf hg hd rfl, withPart_arb]
      · rw [recoverAt_kept hf hg hd, withPart_arb]
    rw [harb, recoveredArb, recoveredQueue]
    simp only [rejoins_iff hf hg]
    simp [recoveredEntry, hf, hg]

/-- NO_PLAN is recorded at the strand's recovery (R52, R140). -/
abbrev recordsNoPlan (s : State) (n : Strand) (c : Ctx) : Bool :=
  beginsDip c && decide (chosenPlan s s.cfg.strands[n].defd .dip = .fallback)

theorem recoverAt_alarm (measured : Vector Nat 6) (n : Strand) (s : State) : (recoverAt measured n s).alarm
    = (s.alarm || (alarmOf s.cfg .noPlan && recordsNoPlan s n (ctxOf s n))) := by
  obtain h | ⟨g, hf, hg⟩ := frozen_cases (ctxOf s n)
  · simp [recoverAt_untouched h, recordsNoPlan, beginsDip, frozenIn_not h]
  · by_cases hd : recoversOnDip g (ctxOf s n)
    · rw [recoverAt_dip hf hg hd rfl, withPart_alarm, recordsNoPlan, (beginsDip_iff hf hg).2 hd, Bool.true_and]
    · rw [recoverAt_kept hf hg hd, withPart_alarm, recordsNoPlan, Bool.eq_false_iff.2 (mt (beginsDip_iff hf hg).1 hd)]
      simp

/-- What an event collects strand by strand, where each part adds to it what its own block, as the event found it,
says. -/
theorem foldl_collects {α : Type} {get : State → α} {f : Strand → State → State} {add : Strand → Block → α → α}
    (hf : ∀ m t, StrandOnly m t (f m t)) (ha : ∀ m t, SameRest s t → get (f m t) = add m t.strands[m] (get t))
    {l : List Strand} (hl : l.Nodup) (ht : SameRest s t) (hb : ∀ m ∈ l, t.strands[m] = s.strands[m]) :
    get (l.foldl (fun t m => f m t) t) = l.foldl (fun x m => add m s.strands[m] x) (get t) := by
  induction l generalizing t with
  | nil => rfl
  | cons m l ih =>
    obtain ⟨hm, hl⟩ := List.nodup_cons.1 hl
    have hrest := ih hl (ht.trans (hf m t).rest) fun k hk =>
      ((hf m t).others k fun e => hm (e ▸ hk)).trans (hb k (.tail _ hk))
    rw [List.foldl_cons, hrest, ha m t ht, hb m (.head _), List.foldl_cons]

theorem forEach_collects {α : Type} {get : State → α} {f : Strand → State → State} {add : Strand → Block → α → α}
    (hf : ∀ m t, StrandOnly m t (f m t)) (ha : ∀ m t, SameRest s t → get (f m t) = add m t.strands[m] (get t)) :
    get (forEach f s) = allStrands.foldl (fun x m => add m s.strands[m] x) (get s) :=
  foldl_collects hf ha (by decide) rfl fun _ _ => rfl

/-- Entries are placed in ascending strand number (R97). -/
theorem forEach_recover_queue (measured : Vector Nat 6) (s : State) : (forEach (recoverAt measured) s).arb.queue
    = (allStrands.filter fun n => rejoins (ctxOf s n)).foldl
        (fun q n => place (recoveredEntry s.store.time n (ctxOf s n)) q) s.arb.queue := by
  rw [List.foldl_filter]
  refine forEach_collects (get := fun t => t.arb.queue) (add := fun m b => recoveredQueue s.store.time m b.ctx)
    (fun m t => recoverAt_only m t measured) fun m t ht => ?_
  have htime : t.store = s.store := by rw [ht]
  rw [recoverAt_arb, htime]
  rfl

theorem forEach_recover_arb (measured : Vector Nat 6) (s : State) : (forEach (recoverAt measured) s).arb
    = { s.arb with queue := (forEach (recoverAt measured) s).arb.queue } := by
  refine forEach_keeps (P := fun t => t.arb = { s.arb with queue := t.arb.queue }) (fun m t ht => ?_) rfl
  rw [recoverAt_arb, ht]

theorem foldl_or_and (a : Bool) (p : Strand → Bool) (l : List Strand) (x : Bool) :
    l.foldl (fun x m => x || (a && p m)) x = (x || (a && l.any p)) := by
  induction l generalizing x with
  | nil => simp
  | cons m l ih => simp [ih, Bool.and_or_distrib_left, Bool.or_assoc]

theorem forEach_recover_alarm (measured : Vector Nat 6) (s : State) : (forEach (recoverAt measured) s).alarm
    = (s.alarm || (alarmOf s.cfg .noPlan && allStrands.any fun n => recordsNoPlan s n (ctxOf s n))) := by
  rw [← foldl_or_and]
  refine forEach_collects (get := State.alarm)
    (add := fun m b x => x || (alarmOf s.cfg .noPlan && recordsNoPlan s m b.ctx))
    (fun m t => recoverAt_only m t measured) fun m t ht => ?_
  have hcfg : t.cfg = s.cfg := by rw [ht]
  have hplans : t.plans = s.plans := by rw [ht]
  rw [recoverAt_alarm, recordsNoPlan, hcfg, chosenPlan_congr hplans]
  rfl

/-! ## The blocks after the recoveries -/

theorem observed_congr (ht : SameRest s t) (hb : t.strands[n] = s.strands[n]) : observed t n = observed s n := by
  have hs : t.store = s.store := by rw [ht]
  rw [observed, observed, hb, hs]

theorem planSlot_congr (ht : SameRest s t) (hb : t.strands[n] = s.strands[n]) (r : PlanRef) (i : Nat) :
    planSlot t n r i = planSlot s n r i := by
  have hp : t.plans = s.plans := by rw [ht]
  cases r with
  | plan p rev => rw [planSlot, planSlot, slotOf, slotOf, hp]
  | fallback => rw [planSlot, planSlot, lnormOf, lnormOf, hb]

theorem forEach_recover_untouched (h : (ctxOf s n).state ≠ .frozen) :
    (forEach (recoverAt measured) s).strands[n] = s.strands[n] := by
  refine forEach_part (fun m t => recoverAt_only m t measured) rfl fun t _ hb => ?_
  have hc : ctxOf t n = ctxOf s n := congrArg Block.ctx hb
  rw [recoverAt_untouched (.inl (hc ▸ h)), hb]

theorem forEach_recover_kept (hf : (ctxOf s n).state = .frozen) (hg : (ctxOf s n).freezeReturn = some g)
    (hd : ¬ recoversOnDip g (ctxOf s n)) : (forEach (recoverAt measured) s).strands[n]
      = thawedBlock measured[n] (freezeState g) (if g = .held then (ctxOf s n).holdReturn else none) s.strands[n] := by
  refine forEach_part (fun m t => recoverAt_only m t measured) rfl fun t _ hb => ?_
  have hc : ctxOf t n = ctxOf s n := congrArg Block.ctx hb
  rw [recoverAt_kept (hc ▸ hf) (hc ▸ hg) (hc ▸ hd), withPart_block, hc, hb]

theorem forEach_recover_dip (hf : (ctxOf s n).state = .frozen) (hg : (ctxOf s n).freezeReturn = some g)
    (hd : recoversOnDip g (ctxOf s n)) (hr : chosenPlan s s.cfg.strands[n].defd .dip = r) :
    (forEach (recoverAt measured) s).strands[n] = noPlanNoted r s.cfg s.store.time (observed s n)
      (dipRecovered measured[n] g r (planSlot s n r 1).level s.strands[n]) := by
  refine forEach_part (fun m t => recoverAt_only m t measured) rfl fun t ht hb => ?_
  have hc : ctxOf t n = ctxOf s n := congrArg Block.ctx hb
  have hcfg : t.cfg = s.cfg := by rw [ht]
  have hstore : t.store = s.store := by rw [ht]
  have hplans : t.plans = s.plans := by rw [ht]
  have hchosen : chosenPlan t t.cfg.strands[n].defd .dip = r := by
    rw [hcfg, chosenPlan_congr hplans, hr]
  rw [recoverAt_dip (hc ▸ hf) (hc ▸ hg) (hc ▸ hd) hchosen, withPart_block, hcfg, hstore, observed_congr ht hb,
    planSlot_congr ht hb, hb]

/-- NO_PLAN is recorded at exactly the recoveries on a DIP restart under plan F (R52). -/
theorem recordsNoPlan_eq (measured : Vector Nat 6) (s : State) (n : Strand) : recordsNoPlan s n (ctxOf s n)
    = (beginsDip (ctxOf s n) && decide ((ctxOf (forEach (recoverAt measured) s) n).plan = some .fallback)) := by
  by_cases hb : beginsDip (ctxOf s n) = true
  · obtain h | ⟨g, hf, hg⟩ := frozen_cases (ctxOf s n)
    · simp [beginsDip, frozenIn_not h] at hb
    · have hblock := forEach_recover_dip (measured := measured) hf hg ((beginsDip_iff hf hg).1 hb) rfl
      have hplan : (ctxOf (forEach (recoverAt measured) s) n).plan
          = some (chosenPlan s s.cfg.strands[n].defd .dip) := by
        rw [ctxOf, hblock, noPlanNoted_ctx]
        rfl
      rw [recordsNoPlan, hplan]
      simp
  · simp [recordsNoPlan, Bool.eq_false_iff.2 hb]

/-- The whole state after the recoveries, but for its blocks. -/
theorem forEach_recover_eq (measured : Vector Nat 6) (s : State) : forEach (recoverAt measured) s = { s with
    strands := (forEach (recoverAt measured) s).strands
    arb := { s.arb with
      queue := (allStrands.filter fun n => rejoins (ctxOf s n)).foldl
        (fun q n => place (recoveredEntry s.store.time n (ctxOf s n)) q) s.arb.queue }
    alarm := s.alarm || (alarmOf s.cfg .noPlan && allStrands.any fun n =>
      beginsDip (ctxOf s n) && decide ((ctxOf (forEach (recoverAt measured) s) n).plan = some .fallback)) } := by
  refine forEach_eq (fun m t => recoverAt_only m t measured) ?_ ?_
  · rw [forEach_recover_arb, forEach_recover_queue]
  · rw [forEach_recover_alarm]
    simp only [recordsNoPlan_eq measured]

/-! ## The expiry -/

/-- The monitor in NORMAL with its settle timer stopped (R133, R136). -/
abbrev normalMonitor (m : Monitor) : Monitor :=
  { m with state := .normal, settle := none, settleCut := false, settleAhead := false }

/-- The state in which the strands recover. -/
abbrev settled (s : State) : State := { s with mon := { normalMonitor s.mon with ride := none } }

theorem exec_settleExpiry (h : s.phase = .running) :
    exec (.settleTimerExpiry measured) s = .next (settleExpires measured s) := congrArg _ (if_pos h)

theorem settleExpires_settling (hs : s.mon.settle.isSome = true) (hcut : s.mon.settleCut = false)
    (hm : s.mon.state = .settling) :
    settleExpires measured s = evaluateGrants (forEach (recoverAt measured) (settled s)) := by
  rw [settleExpires, if_pos ⟨hs, hcut⟩, hm]
  rfl

theorem settleExpires_outage (hs : s.mon.settle.isSome = true) (hcut : s.mon.settleCut = false)
    (hm : s.mon.state = .outage) :
    settleExpires measured s = evaluateGrants { s with mon := normalMonitor s.mon } := by
  rw [settleExpires, if_pos ⟨hs, hcut⟩, hm]
  rfl

/-- Outside NORMAL no strand waits, by Laws 3 and 11. -/
theorem queue_empty_of_laws (hl : supplyLaw s) (hq : queueLaw s) (hm : s.mon.state ≠ .normal) : s.arb.queue = [] := by
  refine List.eq_nil_iff_forall_not_mem.2 fun e he => ?_
  have hw := (hq.2 e.strand).1 (List.mem_map_of_mem he)
  have hn := hl hm e.strand
  rw [hw] at hn
  simp at hn

end Recovery

/-- Settles O37: each strand's part is its own recovery from the block the event found there; queue and ALARM collect the
parts in ascending strand number. -/
theorem settleExpiryRecoversTheStrands : Obligations.SettleExpiryRecoversTheStrands := by
  intro measured s h
  refine ⟨fun hstop => ?_, fun hl hq hm hs hcut => ?_, fun hm hs hcut => ?_⟩
  · rw [exec_settleExpiry h, settleExpires_none hstop]
  · have hempty : s.arb.queue = [] := queue_empty_of_laws hl hq (by rw [hm]; decide)
    rw [exec_settleExpiry h, settleExpires_outage hs hcut hm, evaluateGrants_none]
    refine Bool.eq_false_iff.2 fun hc => ?_
    exact ((canGrant_iff _).1 hc).2.2.2 hempty
  · have hexec := (exec_settleExpiry (measured := measured) h).trans (congrArg _ (settleExpires_settling hs hcut hm))
    have hspacing := congrArg Arbiter.spacing (forEach_recover_arb measured (settled s))
    have shape := forEach_recover_eq measured (settled s)
    have untouched (n : Strand) := forEach_recover_untouched (measured := measured) (s := settled s) (n := n)
    have kept (n : Strand) (g) := forEach_recover_kept (measured := measured) (s := settled s) (n := n) (g := g)
    have dip (n : Strand) (g r) := forEach_recover_dip (measured := measured) (s := settled s) (n := n) (g := g) (r := r)
    generalize forEach (recoverAt measured) (settled s) = u at hexec hspacing shape untouched kept dip
    have hphase : u.phase = .running := by rw [shape]; exact h
    refine ⟨u, evaluateGrants u, hexec, ?_, fun hsp => ?_, shape, fun n => ⟨untouched n, fun g hf hg => ⟨fun hb => ?_,
      fun hb => ⟨fun p hd y hk hv hh hkind hy => ?_, fun hno => ?_⟩⟩⟩⟩
    · rw [exec, execGrantEvaluation, whenRunning, if_pos hphase]
    · refine evaluateGrants_none (Bool.eq_false_iff.2 fun hc => ?_)
      have hnone : s.arb.spacing = none := hspacing.symm.trans ((canGrant_iff _).1 hc).2.2.1
      simp [hnone] at hsp
    · exact kept n g hf hg (mt (beginsDip_iff hf hg).2 (Bool.eq_false_iff.1 hb))
    · refine (dip n g _ hf hg ((beginsDip_iff hf hg).1 hb) (chosenPlan_usable hk hv hh hkind)).trans ?_
      rw [planSlot_first (s := settled s) hy]
      rfl
    · exact dip n g _ hf hg ((beginsDip_iff hf hg).1 hb) (chosenPlan_none hno)

end Sys2Proof.Machine
end

section
/-! PROOF. The speed arithmetic of chapter 3 on whole numbers: the common steps, the line of an AUTO slot and the step of
an override. -/

namespace Sys2Proof.Machine

open Sys2Proof

/-! ## The common steps (R57) -/

/-- The common steps move the setpoint by at most the acceleration limit. -/
theorem commonSteps_within (cap accel prev : Nat) (x : Int) : (commonSteps cap accel prev x).speed ≤ prev + accel
    ∧ prev ≤ (commonSteps cap accel prev x).speed + accel := by
  have hspeed := commonSteps_speed cap accel prev x
  exact ⟨by omega, by omega⟩

/-- A candidate within cap, rate limit and floor is the setpoint. -/
theorem commonSteps_of_within {cap accel prev : Nat} {x : Int} (h0 : 0 ≤ x) (hcap : x ≤ cap) (hup : x ≤ prev + accel)
    (hdown : prev ≤ x + accel) : ((commonSteps cap accel prev x).speed : Int) = x := by
  rw [commonSteps_speed]
  omega

/-! ## The candidates (R61, R62) -/

/-- On a rising line the AUTO candidate is the start and the whole part of the rise so far. -/
theorem autoCandidate_rising (s0 d k n : Nat) : autoCandidate s0 (s0 + d) k n = s0 + (d * k / n : Nat) := by
  have hrise : ((s0 + d : Nat) : Int) - s0 = d := by omega
  rw [autoCandidate, hrise, ← Nat.cast_mul, ← Int.ofNat_tdiv]

/-- On a falling line it is the start less the whole part of the fall so far: the quotient is truncated toward zero. -/
theorem autoCandidate_falling (st d k n : Nat) :
    autoCandidate (st + d) st k n = ((st + d : Nat) : Int) - (d * k / n : Nat) := by
  have hfall : (st : Int) - (st + d : Nat) = -d := by omega
  rw [autoCandidate, hfall, Int.neg_mul, Int.neg_tdiv, ← Nat.cast_mul, ← Int.ofNat_tdiv, Int.sub_eq_add_neg]

/-- The whole part of `d * k / n`: within `d` up to the end of the slot, and the last whole number not beyond the line. -/
theorem wholePart_bounds (d k n : Nat) : (k ≤ n → d * k / n ≤ d) ∧ d * k / n * n ≤ d * k
    ∧ (0 < n → d * k < (d * k / n + 1) * n) := by
  refine ⟨fun hk => ?_, Nat.div_mul_le_self _ _, fun hn => ?_⟩
  · exact Nat.div_le_of_le_mul ((Nat.mul_le_mul_left d hk).trans_eq (Nat.mul_comm d n))
  · rw [Nat.mul_comm _ n]
    exact Nat.lt_mul_div_succ _ hn

/-- The AUTO candidate on a rising line is the whole number nearest the line from below. -/
theorem autoCandidate_up {s0 st k n : Nat} (hk : k ≤ n) (h : s0 ≤ st) :
    (s0 : Int) ≤ autoCandidate s0 st k n ∧ autoCandidate s0 st k n ≤ st
      ∧ (autoCandidate s0 st k n - s0) * n ≤ ((st : Int) - s0) * k
      ∧ (0 < n → ((st : Int) - s0) * k < (autoCandidate s0 st k n + 1 - s0) * n) := by
  obtain ⟨d, rfl⟩ := Nat.exists_eq_add_of_le h
  obtain ⟨hle, hline, hnext⟩ := wholePart_bounds d k n
  rw [autoCandidate_rising]
  generalize d * k / n = q at hle hline hnext
  have hd : ((s0 + d : Nat) : Int) - s0 = d := by omega
  have hq : (s0 : Int) + q - s0 = q := by omega
  have hq' : (s0 : Int) + q + 1 - s0 = (q + 1 : Nat) := by omega
  rw [hd, hq, hq']
  have hqd := hle hk
  exact ⟨by omega, by omega, by exact_mod_cast hline, fun hn => by exact_mod_cast hnext hn⟩

/-- The AUTO candidate on a falling line is the whole number nearest the line from above. -/
theorem autoCandidate_down {s0 st k n : Nat} (hk : k ≤ n) (h : st ≤ s0) :
    (st : Int) ≤ autoCandidate s0 st k n ∧ autoCandidate s0 st k n ≤ s0
      ∧ ((s0 : Int) - autoCandidate s0 st k n) * n ≤ ((s0 : Int) - st) * k
      ∧ (0 < n → ((s0 : Int) - st) * k < ((s0 : Int) - (autoCandidate s0 st k n - 1)) * n) := by
  obtain ⟨d, rfl⟩ := Nat.exists_eq_add_of_le h
  obtain ⟨hle, hline, hnext⟩ := wholePart_bounds d k n
  rw [autoCandidate_falling]
  generalize d * k / n = q at hle hline hnext
  generalize hs : ((st + d : Nat) : Int) = s0
  have hd : s0 - st = d := by omega
  have hq : s0 - (s0 - q) = q := by omega
  have hq' : s0 - (s0 - q - 1) = (q + 1 : Nat) := by omega
  rw [hd, hq, hq']
  have hqd := hle hk
  exact ⟨by omega, by omega, by exact_mod_cast hline, fun hn => by exact_mod_cast hnext hn⟩

theorem overrideCandidate_up {prev st o : Nat} (h : prev ≤ st) :
    overrideCandidate prev st o = (min st (prev + o * 16) : Nat) := by
  unfold overrideCandidate
  split
  · omega
  · rw [if_neg (Nat.not_lt.2 h)]
    omega

theorem overrideCandidate_down {prev st o : Nat} (h : st ≤ prev) :
    overrideCandidate prev st o = (max st (prev - o * 16) : Nat) := by
  rw [overrideCandidate, if_neg (Nat.not_lt.2 h)]
  split <;> omega

/-- Settles O13. -/
theorem speedArithmeticFollowsChapter3 : Obligations.SpeedArithmeticFollowsChapter3 := by
  constructor
  · intro cap accel prev x o y
    obtain ⟨hup, hdown⟩ := commonSteps_within cap accel prev x
    have hcapped : o.capped = true ↔ (cap : Int) < x := by rw [commonSteps_capped, decide_eq_true_eq]
    have hclamped : o.clamped = true ↔ (prev : Int) + accel < min x cap ∨ min x cap < (prev : Int) - accel := by
      rw [commonSteps_clamped, decide_eq_true_eq]
    exact ⟨commonSteps_speed cap accel prev x, hcapped, hclamped, hup, hdown, commonSteps_le cap accel prev x,
      commonSteps_of_within⟩
  · intro s0 st prev k n o
    exact ⟨autoCandidate_end, autoCandidate_up, autoCandidate_down, overrideCandidate_up, overrideCandidate_down⟩

end Sys2Proof.Machine
end

section
/-! PROOF. A control period in CHANGE: floor reached in stage 3, and the setpoint toward CREEP or 0 in stage 4. -/

namespace Sys2Proof.Machine

open Sys2Proof

section Change

variable {n : Strand} {b : Block} {a : Arbiter} {al : Bool} {s : State} {r : Reading} {l : Nat}

/-! ## Stages 3 to 7 on a part -/

/-- Floor reached after the floor test on a reading of level `level`, under the settings `g` (R117). -/
def floorAfter (g : StrandCfg) (level : Option Nat) (reached : Bool) : Bool := reached || level.any (· < g.lfloor)

/-- The block with floor reached at `f`. -/
def floorBlock (f : Bool) (b : Block) : Block := { b with ctx := { b.ctx with floorReached := f } }

theorem floorTest_withPart : floorTest n r (withPart n b a al s)
    = withPart n (floorBlock (floorAfter b.force r.level b.ctx.floorReached) b) a al s := by
  rw [floorTest, withPart_block, floorAfter]
  cases r.level with
  | none =>
    rw [Option.any_none, Bool.or_false]
    rfl
  | some l =>
    dsimp only
    rw [Option.any_some]
    by_cases h : l < b.force.lfloor
    · rw [if_pos h, mapCtx_withPart, decide_eq_true h, Bool.or_true]
      rfl
    · rw [if_neg h, decide_eq_false h, Bool.or_false]
      rfl

/-- The candidate of a strand in CHANGE with floor reached at `floor`, under the settings `g` (R68). -/
abbrev creepTarget (g : StrandCfg) (floor : Bool) : Int := if floor then 0 else (g.creep * 16 : Nat)

theorem changeCandidate_withPart :
    changeCandidate (withPart n b a al s) n = creepTarget b.force b.ctx.floorReached := by
  rw [changeCandidate, ctxOf_withPart, withPart_block]

/-- The stages after stage 2 in CHANGE move floor reached, the setpoint, stopper and integrator (R68, R117). -/
theorem laterStages_change (h : b.ctx.state = .change) : ∃ u w i,
    laterStages n r (timedStage n r (withPart n b a al s)) = withPart n u a al s ∧ u.log = b.log
      ∧ u.ctx = { b.ctx with
          floorReached := floorAfter b.force r.level b.ctx.floorReached
          speed := (limitedAt b (creepTarget b.force (floorAfter b.force r.level b.ctx.floorReached))).speed
          stopper := w, integrator := i } := by
  have htimed : timedStage n r (withPart n b a al s) = quiet (floorTest n r) (withPart n b a al s) := by
    rw [timedStage, ctxOf_withPart, h]
  rw [htimed, quiet, floorTest_withPart]
  generalize floorAfter b.force r.level b.ctx.floorReached = f
  have hst : (floorBlock f b).ctx.state = .change := h
  have hramp : rampAndActions n (withPart n (floorBlock f b) a al s)
      = { st := plainStage n (creepTarget b.force f) (withPart n (floorBlock f b) a al s), cut := false } := by
    rw [rampAndActions, speedStage, ctxOf_withPart, hst]
    dsimp only
    rw [changeCandidate_withPart]
    rfl
  rw [laterStages, unlessCut_going, hramp, unlessCut_going, quiet, plainStage_withPart, closePeriod_withPart]
  · obtain ⟨w, i, hc⟩ := closedBlock_ctx r { floorBlock f b with
      ctx := { (floorBlock f b).ctx with speed := (limitedAt b (creepTarget b.force f)).speed } }
    exact ⟨_, w, i, rfl, rfl, hc⟩
  · exact hst.trans_ne (by decide)

/-! ## Stage 2 on an invalid sample -/

theorem applyAction_still {act : Action} (h : ∀ g, holdState g ≠ b.ctx.state) (hs : act ≠ .stop) (ht : act ≠ .trip) :
    applyAction n act (withPart n b a al s) = withPart n b a al s :=
  applyActions_still (as := [act]) h (by simpa using hs.symm) (by simpa using ht.symm)

/-- A condition found in a state that HOLD does not hold, and not steered to TRIP, is at most recorded (R148, R153). -/
theorem checkCond_still {k : Cond} (hstill : ∀ g, holdState g ≠ b.ctx.state) (hact : actionOf s.cfg (condKind k) ≠ .trip) :
    ∃ u log al', checkCond n k .present (withPart n b a al s)
      = { st := withPart n { b with active := u, log := log } a al' s, cut := false } := by
  rw [checkCond, withPart_block]
  by_cases h : isActive b.active k = true
  · rw [if_pos h]
    exact ⟨b.active, b.log, al, rfl⟩
  · have hstop : actionOf s.cfg (condKind k) ≠ .stop := actionOf_ne_stop (by cases k <;> decide)
    rw [if_neg h, raise_withPart rfl, setCondition, mapBlock_withPart, withPart_cfg, decide_eq_false hact]
    exact ⟨_, _, _, congrArg (Period.mk · false) (applyAction_still hstill hstop hact)⟩

theorem checkLevelHigh_open (hlevel : r.level = none) (hw : isWatched b.ctx.state = true) :
    checkLevelHigh n r (withPart n b a al s) = { st := withPart n b a al s, cut := false } := by
  rw [checkLevelHigh, ctxOf_withPart, hw, hlevel]
  rfl

/-- Stage 2 on an invalid sample, with neither a breakout nor a lost interlock, in HELD, CHANGE, FROZEN and STOPPING:
GAUGE_FAULT is at most recorded (R89, R90, R148). -/
theorem checks_blind_still {prior : List Nat} (hbreakout : r.breakout = false) (hready : r.ready = true)
    (hlevel : r.level = none) (hw : isWatched b.ctx.state = true) (hm : isMoving b.ctx.state = false)
    (hstill : ∀ g, holdState g ≠ b.ctx.state) (hact : actionOf s.cfg .gaugeFault ≠ .trip) :
    ∃ u log al', checks n r prior (withPart n b a al s)
      = { st := withPart n { b with active := u, log := log, ctx := { b.ctx with lag := 0 } } a al' s, cut := false } := by
  obtain ⟨u, log, al', hgauge⟩ := checkCond_still (n := n) (a := a) (al := al) (k := .gaugeFault)
    (b := without .interlockLost (without .breakout b)) hstill hact
  have hfound : checkGauge n r (withPart n (without .interlockLost (without .breakout b)) a al s)
      = checkCond n .gaugeFault .present (withPart n (without .interlockLost (without .breakout b)) a al s) := by
    rw [checkGauge, ctxOf_withPart, hlevel]
    exact congrArg (fun c => checkCond n .gaugeFault (found (c && true)) _) hw
  generalize hd : ({ without .interlockLost (without .breakout b) with active := u, log := log } : Block) = d at hgauge
  have hctx : d.ctx = b.ctx := by rw [← hd]; rfl
  have hmd : isMoving d.ctx.state = false := by rw [hctx, hm]
  refine ⟨setActive (setActive d.active false .levelLow) false .driveLag, log, al', ?_⟩
  rw [checks, checkBreakout_none (by rw [hbreakout, Bool.and_false]), unlessCut_going,
    checkInterlock_none (b := without .breakout b) (by rw [hready]; exact Bool.and_false _), unlessCut_going,
    hfound, hgauge, unlessCut_going, checkLevelHigh_open hlevel (by rwa [hctx]), unlessCut_going,
    checkSuspect_none (fun l h => by rw [hlevel] at h; cases h), unlessCut_going,
    checkLevelLow_none (by rw [hmd]; rfl), unlessCut_going,
    checkLag_none (b := without .levelLow d) ((congrArg (· && _) hmd).trans (Bool.false_and _)), ← hd]
  rfl

/-- A control period on such a sample, up to stage 2. -/
theorem exec_blind_still {x : Sample} (hrun : s.phase = .running) (hbreakout : x.breakout = false) (hready : x.ready = true)
    (hlevel : validLevel x = none) (hw : isWatched (ctxOf s n).state = true) (hm : isMoving (ctxOf s n).state = false)
    (hstill : ∀ g, holdState g ≠ (ctxOf s n).state) (hact : actionOf s.cfg .gaugeFault ≠ .trip) :
    ∃ b al h e m lt, b.force = s.cfg.strands[n]
      ∧ b.ctx = { ctxOf s n with history := h, extremes := e, mode := m, levelTarget := lt, lag := 0 }
      ∧ exec (.controlPeriod n x) s = .next (laterStages n (readSample x)
          (timedStage n (readSample x) (withPart n b s.arb al s))) := by
  obtain ⟨h, e, m, lt, hopened⟩ := openedBlock_ctx s.cfg.strands[n] (readSample x) s.strands[n]
  generalize hb : openedBlock s.cfg.strands[n] (readSample x) s.strands[n] = b at hopened
  have hst : b.ctx.state = (ctxOf s n).state := by rw [hopened]; rfl
  rw [← hst] at hw hm hstill
  obtain ⟨u, log, al, hchecks⟩ := checks_blind_still (n := n) (a := s.arb) (al := s.alarm)
    (prior := suspectHistory s.strands[n]) (r := readSample x) hbreakout hready hlevel hw hm hstill hact
  refine ⟨{ b with active := u, log := log, ctx := { b.ctx with lag := 0 } }, al, h, e, m, lt, by rw [← hb]; rfl,
    by rw [hopened]; rfl, ?_⟩
  rw [exec_period hrun, periodOn, openPeriod_part, hb, hchecks, unlessCut_going]
  rfl

/-- Settles O23: the stages after stage 2 on the part a sound, or an invalid, sample leaves. -/
theorem changeCreepsToTheFloor : Obligations.ChangeCreepsToTheFloor := by
  intro n x s hrun hst toward
  have limited {b : Block} (hforce : b.force = s.cfg.strands[n]) (hspeed : b.ctx.speed = (ctxOf s n).speed) (f : Bool) :
      ((limitedAt b (creepTarget b.force f)).speed : Int) = toward f := by
    rw [commonSteps_speed, hforce, hspeed]
  refine ⟨fun l hsound => ?_, fun hbreakout hready hlevel hact => ?_⟩
  · obtain ⟨b, hb, hexec⟩ := exec_sound hrun hsound
    obtain ⟨u, w, i, hu, hlog, hctx⟩ := laterStages_change (n := n) (a := s.arb) (al := s.alarm) (s := s)
      (r := readSample x) (hb.state.trans hst)
    have hfloor : b.ctx.floorReached = (ctxOf s n).floorReached := by rw [hb.ctx]; rfl
    refine ⟨_, hexec, ?_⟩
    rw [hu, ctxOf_withPart, withPart_block, hctx]
    refine ⟨rfl, hb.state.trans hst, ?_, limited hb.force hb.speed _, hb.resume, hb.timer, hlog.trans hb.log⟩
    rw [floorAfter, readSample_valid hsound.1, Option.any_some, hfloor, hb.force]
  · obtain ⟨b, al, h, e, m, lt, hforce, hb, hexec⟩ := exec_blind_still hrun hbreakout hready hlevel (by rw [hst]; rfl)
      (by rw [hst]; rfl) (fun g => by rw [hst]; cases g <;> decide) hact
    have hbst : b.ctx.state = .change := by rw [hb]; exact hst
    obtain ⟨u, w, i, hu, -, hctx⟩ := laterStages_change (n := n) (a := s.arb) (al := al) (s := s) (r := readSample x) hbst
    have hfloor : floorAfter b.force (readSample x).level b.ctx.floorReached = (ctxOf s n).floorReached := by
      rw [floorAfter, show (readSample x).level = none from hlevel, hb]
      exact Bool.or_false _
    rw [hfloor] at hctx
    refine ⟨_, hexec, ?_⟩
    rw [hu, ctxOf_withPart, hctx]
    exact ⟨hbst, rfl, limited hforce (by rw [hb]) _⟩

end Change

end Sys2Proof.Machine
end

section
/-! PROOF. The stopper computation (R85, R86): the clamp as minimum and maximum, and the two cases of the anti-windup. -/

namespace Sys2Proof.Machine

open Sys2Proof

theorem clampInt_eq {lo hi x : Int} (h : lo ≤ hi) : clampInt lo hi x = max lo (min hi x) := by
  unfold clampInt
  split
  · omega
  · split <;> omega

/-- The integrator a CLOSED period would take without the anti-windup (R86). -/
abbrev nextIntegrator (g : StrandCfg) (e i : Int) : Int := max (-1000) (min 1000 (i + Int.tdiv ((g.ki : Int) * e) 256))

/-- The stopper computation as its raw output decides it: the anti-windup keeps the integrator where the output is beyond a
stop and the deviation drives it further (R86). -/
theorem loopCompute_eq (g : StrandCfg) (v lt l : Nat) (i : Int) :
    let e : Int := (lt : Int) - l
    let fixed : Int := Int.tdiv ((v : Int) * g.kff) 1024 + Int.tdiv ((g.kp : Int) * e) 64
    let ic := nextIntegrator g e i
    let i' := if (fixed + ic > g.umax ∧ e > 0) ∨ (fixed + ic < 0 ∧ e < 0) then i else ic
    loopCompute g v lt l i = { stopper := (max 0 (min (g.umax : Int) (fixed + i'))).toNat, integrator := i' } := by
  intro e fixed ic i'
  have hic (x : Int) : clampInt (-1000) 1000 x = max (-1000) (min 1000 x) := clampInt_eq (by decide)
  have hout (x : Int) : clampInt 0 g.umax x = max 0 (min (g.umax : Int) x) := clampInt_eq (Int.natCast_nonneg _)
  simp only [loopCompute, feedforward, hic, hout, Bool.or_eq_true, Bool.and_eq_true, decide_eq_true_eq]
  rfl

/-- Settles O14. -/
theorem stopperComputationFollowsR86 : Obligations.StopperComputationFollowsR86 := by
  intro g v lt l i hlo hhi e fixed ic held o
  obtain ⟨hstopper, hmin, hmax⟩ := loopCompute_bounds (g := g) (v := v) (lt := lt) (l := l) hlo hhi
  have ho : o = _ := loopCompute_eq g v lt l i
  refine ⟨fun hkept => ?_, fun hfree => ?_, ?_, hmin, hmax, hstopper⟩
  · rw [ho]
    exact if_pos hkept
  · rw [ho]
    exact if_neg hfree
  · rw [ho]
    exact Int.toNat_of_nonneg (le_max_left _ _)

end Sys2Proof.Machine
end

section
/-! SUPPORT. Records entered into a log one after another (R155): what stays of the log, and what they add. -/

namespace Sys2Proof.Machine

open Sys2Proof

section Logs

variable {k : Kind} {m : Bool} {es : List NextEntry} {e : NextEntry} {g h i : Log StrandRec} {q : StrandRec}
  {rs : List StrandRec}

/-! ## The Next set -/

theorem mem_nextInsert (h : e ∈ nextInsert k m es) : e ∈ es ∨ e.kind = k := by
  induction es with
  | nil => exact .inr (congrArg NextEntry.kind (List.mem_singleton.1 h))
  | cons f fs ih =>
    rw [nextInsert] at h
    split at h
    · obtain rfl | h := List.mem_cons.1 h
      · exact .inr rfl
      · exact .inl h
    · split at h
      · obtain rfl | h := List.mem_cons.1 h
        · exact .inr rfl
        · exact .inl (List.mem_cons_of_mem _ h)
      · obtain rfl | h := List.mem_cons.1 h
        · exact .inl List.mem_cons_self
        · exact (ih h).imp_left (List.mem_cons_of_mem _)

/-- The kind entered is in the Next set, with its mark. -/
theorem nextInsert_has : ∃ e ∈ nextInsert k m es, e.kind = k ∧ (m = true → e.mark = true) := by
  induction es with
  | nil => exact ⟨_, List.mem_singleton_self _, rfl, id⟩
  | cons f fs ih =>
    rw [nextInsert]
    split
    · exact ⟨_, List.mem_cons_self, rfl, id⟩
    · split
      · exact ⟨_, List.mem_cons_self, rfl, fun hm => by rw [hm, Bool.or_true]⟩
      · obtain ⟨e, he, hk⟩ := ih
        exact ⟨e, List.mem_cons_of_mem _ he, hk⟩

/-- A kind in the Next set stays there, with the mark it has. -/
theorem nextInsert_keeps (h : e ∈ es) :
    ∃ e' ∈ nextInsert k m es, e'.kind = e.kind ∧ (e.mark = true → e'.mark = true) := by
  induction es with
  | nil => cases h
  | cons f fs ih =>
    rw [nextInsert]
    split
    · exact ⟨e, List.mem_cons_of_mem _ h, rfl, id⟩
    · split
      · rename_i hk
        obtain rfl | h := List.mem_cons.1 h
        · exact ⟨_, List.mem_cons_self, hk, fun hm => by rw [hm, Bool.true_or]⟩
        · exact ⟨e, List.mem_cons_of_mem _ h, rfl, id⟩
      · obtain rfl | h := List.mem_cons.1 h
        · exact ⟨e, List.mem_cons_self, rfl, id⟩
        · obtain ⟨e', he, hk⟩ := ih h
          exact ⟨e', List.mem_cons_of_mem _ he, hk⟩

/-! ## A log after a record -/

/-- Every kind in the Next set of `g` is in that of `h`, with the mark it has. -/
abbrev keepsEntries (g h : Log StrandRec) : Prop :=
  ∀ e ∈ g.next, ∃ e' ∈ h.next, e'.kind = e.kind ∧ (e.mark = true → e'.mark = true)

/-- `h` has no record of kind `k` that `g` has not. -/
abbrev addsNone (k : Kind) (g h : Log StrandRec) : Prop :=
  (∀ r ∈ h.first, r.kind = k → g.first = some r) ∧ ∀ e ∈ h.next, e.kind = k → e ∈ g.next

theorem keepsEntries.trans (hg : keepsEntries g h) (hh : keepsEntries h i) : keepsEntries g i := by
  intro e he
  obtain ⟨e', he', hk, hm⟩ := hg e he
  obtain ⟨e'', he'', hk', hm'⟩ := hh e' he'
  exact ⟨e'', he'', hk'.trans hk, fun h => hm' (hm h)⟩

theorem addsNone.trans (hg : addsNone k g h) (hh : addsNone k h i) : addsNone k g i :=
  ⟨fun r hr hk => hg.1 r (hh.1 r hr hk) hk, fun e he hk => hg.2 e (hh.2 e he hk) hk⟩

theorem logRecord_of_some {f : StrandRec} (h : g.first = some f) :
    logRecord g q k m = { g with next := nextInsert k m g.next } := by rw [logRecord, h]

theorem logRecord_of_none (h : g.first = none) : logRecord g q k m = { g with first := some q } := by
  rw [logRecord, h]

theorem logRecord_first_ne_none : (logRecord g q k m).first ≠ none := by
  cases h : g.first with
  | none => simp [logRecord_of_none h]
  | some f => simp [logRecord_of_some h, h]

theorem logRecord_first (h : g.first ≠ none) : (logRecord g q k m).first = g.first := by
  obtain ⟨f, hf⟩ := Option.ne_none_iff_exists'.1 h
  rw [logRecord_of_some hf]

theorem logRecord_has (h : g.first ≠ none) :
    ∃ e ∈ (logRecord g q k m).next, e.kind = k ∧ (m = true → e.mark = true) := by
  obtain ⟨f, hf⟩ := Option.ne_none_iff_exists'.1 h
  rw [logRecord_of_some hf]
  exact nextInsert_has

theorem logRecord_keeps : keepsEntries g (logRecord g q k m) := by
  intro e he
  cases h : g.first with
  | none =>
    rw [logRecord_of_none h]
    exact ⟨e, he, rfl, id⟩
  | some f =>
    rw [logRecord_of_some h]
    exact nextInsert_keeps he

theorem logRecord_addsNone (h : q.kind ≠ k) : addsNone k g (logRecord g q q.kind m) := by
  cases hf : g.first with
  | none =>
    rw [logRecord_of_none hf]
    refine ⟨fun r hr hk => ?_, fun e he _ => he⟩
    obtain rfl := Option.some.inj hr
    exact absurd hk h
  | some f =>
    rw [logRecord_of_some hf]
    refine ⟨fun r hr _ => hr, fun e he hk => ?_⟩
    exact (mem_nextInsert he).resolve_right fun e' => h (e'.symm.trans hk)

/-! ## A log after a list of records -/

/-- A log with the records `rs` entered one after another (R155). -/
def enterAll (rs : List StrandRec) (g : Log StrandRec) : Log StrandRec :=
  rs.foldl (fun g q => logRecord g q q.kind q.mark) g

theorem enterAll_append (rs rs' : List StrandRec) (g : Log StrandRec) :
    enterAll (rs ++ rs') g = enterAll rs' (enterAll rs g) := List.foldl_append

theorem enterAll_cons : enterAll (q :: rs) g = enterAll rs (logRecord g q q.kind q.mark) := rfl

theorem enterAll_first (h : g.first ≠ none) : (enterAll rs g).first = g.first := by
  induction rs generalizing g with
  | nil => rfl
  | cons q rs ih => rw [enterAll_cons, ih logRecord_first_ne_none, logRecord_first h]

theorem enterAll_keeps : keepsEntries g (enterAll rs g) := by
  induction rs generalizing g with
  | nil => exact fun e he => ⟨e, he, rfl, id⟩
  | cons q rs ih => exact logRecord_keeps.trans ih

/-- In a log that has its First record each record entered is in the Next set. -/
theorem enterAll_has (h : g.first ≠ none) (hq : q ∈ rs) : ∃ e ∈ (enterAll rs g).next, e.kind = q.kind := by
  induction rs generalizing g with
  | nil => cases hq
  | cons p rs ih =>
    obtain rfl | hq := List.mem_cons.1 hq
    · obtain ⟨e, he, hk, -⟩ := logRecord_has (q := q) (k := q.kind) (m := q.mark) h
      obtain ⟨e', he', hk', -⟩ := enterAll_keeps (rs := rs) e he
      exact ⟨e', he', hk'.trans hk⟩
    · exact ih logRecord_first_ne_none hq

theorem enterAll_addsNone (h : ∀ q ∈ rs, q.kind ≠ k) : addsNone k g (enterAll rs g) := by
  induction rs generalizing g with
  | nil => exact ⟨fun _ hr _ => hr, fun _ he _ => he⟩
  | cons p rs ih =>
    exact (logRecord_addsNone (h p List.mem_cons_self)).trans (ih fun q hq => h q (List.mem_cons_of_mem _ hq))

end Logs

end Sys2Proof.Machine
end

section
/-! SUPPORT. What the stages after stage 2 of a control period enter into the log of their strand, and where the actions of
those records take it (R8, R9, R148). -/

namespace Sys2Proof.Machine

open Sys2Proof

/-! ## The context -/

/-- The states that a strand leaves in stages 3 to 7 by a TRIP alone. -/
abbrev rests (st : StrandState) : Prop := st = .held ∨ st = .frozen ∨ st = .change ∨ st = .tripped

/-- `d` is `c` after operations of stages 3 to 7 under the actions `as`: TRIPPED and HELD are entered by an action alone, and
the lag count of a strand that still ramps or casts stands. -/
structure Goes (as : List Action) (c d : Ctx) : Prop where
  trips : d.state = .tripped → c.state = .tripped ∨ .trip ∈ as
  holds : d.state = .held → c.state = .held ∨ .hold ∈ as
  rests : rests c.state → d.state = c.state ∨ d.state = .tripped
  lag   : d.lag = c.lag ∨ d.lag = 0
  moves : isMoving d.state = true → isMoving c.state = true ∧ d.lag = c.lag

section Contexts

variable {as as' : List Action} {c d e : Ctx}

theorem Goes.same (hs : d.state = c.state) (hl : d.lag = c.lag) : Goes as c d :=
  ⟨fun h => .inl (hs ▸ h), fun h => .inl (hs ▸ h), fun _ => .inl hs, .inl hl, fun h => ⟨hs ▸ h, hl⟩⟩

theorem Goes.trans (h : Goes as c d) (k : Goes as' d e) : Goes (as ++ as') c e where
  trips ht := by
    rw [List.mem_append, ← or_assoc]
    exact (k.trips ht).imp_left h.trips
  holds hh := by
    rw [List.mem_append, ← or_assoc]
    exact (k.holds hh).imp_left h.holds
  rests hr := by
    obtain hd | hd := h.rests hr
    · rw [← hd] at hr ⊢
      exact k.rests hr
    · exact .inr ((k.rests (.inr (.inr (.inr hd)))).elim (fun he => he.trans hd) id)
  lag := by
    obtain hl | hl := k.lag
    · exact h.lag.imp hl.trans hl.trans
    · exact .inr hl
  moves hm := by
    obtain ⟨hd, hl⟩ := k.moves hm
    obtain ⟨hc, hl'⟩ := h.moves hd
    exact ⟨hc, hl.trans hl'⟩

/-- The entries into DWELL, WAIT_PERMIT and CAST (R15, R16, R19). -/
theorem Goes.phase (hl : d.lag = c.lag)
    (h : ((c.state = .fill ∨ c.state = .dwell) ∧ (d.state = .dwell ∨ d.state = .waitPermit))
      ∨ (c.state = .ramp ∧ d.state = .cast)) : Goes as c d := by
  obtain ⟨hc | hc, hd | hd⟩ | ⟨hc, hd⟩ := h <;> constructor <;> simp [hc, hd, hl, isMoving]

theorem Goes.idle (hc : c.state = .stopping) (hd : d.state = .idle) (hl : d.lag = 0) : Goes as c d := by
  constructor <;> simp [hc, hd, hl, isMoving]

theorem Goes.trip (ha : .trip ∈ as) (hd : d.state = .tripped) (hl : d.lag = 0) : Goes as c d := by
  constructor <;> simp [ha, hd, hl, isMoving]

theorem Goes.hold {g : HoldReturn} (ha : .hold ∈ as) (hc : holdState g = c.state) (hd : d.state = .held) (hl : d.lag = 0) :
    Goes as c d := by
  cases g <;> constructor <;> simp [ha, ← hc, hd, hl, isMoving, holdState]

end Contexts

/-! ## Operations -/

/-- `t` is `s` after operations of a period at strand `n` that entered the records `rs` and applied the actions `as`; a
condition entered the active-condition set with its record alone. -/
structure Entered (n : Strand) (rs : List StrandRec) (as : List Action) (s t : State) : Prop where
  cfg    : t.cfg = s.cfg
  alarm  : t.alarm = (s.alarm || rs.any StrandRec.mark)
  log    : t.strands[n].log = enterAll rs s.strands[n].log
  active : ∀ c, (∀ q ∈ rs, q.kind ≠ condKind c) → isActive t.strands[n].active c = isActive s.strands[n].active c
  ctx    : Goes as (ctxOf s n) (ctxOf t n)

section Operations

variable {n : Strand} {s t u : State} {rs rs' : List StrandRec} {as as' : List Action} {k : Kind}
  {r : Reading} {x : Ramped}

protected theorem Entered.refl (n : Strand) (s : State) : Entered n [] [] s s :=
  ⟨rfl, (Bool.or_false _).symm, rfl, fun _ _ => rfl, .same rfl rfl⟩

protected theorem Entered.trans (h : Entered n rs as s t) (k : Entered n rs' as' t u) :
    Entered n (rs ++ rs') (as ++ as') s u where
  cfg := k.cfg.trans h.cfg
  alarm := by rw [k.alarm, h.alarm, List.any_append, Bool.or_assoc]
  log := by rw [k.log, h.log, enterAll_append]
  active c hc := (k.active c fun q hq => hc q (List.mem_append_right _ hq)).trans
    (h.active c fun q hq => hc q (List.mem_append_left _ hq))
  ctx := h.ctx.trans k.ctx

theorem Entered.of_block {f : Block → Block} (hl : (f s.strands[n]).log = s.strands[n].log)
    (ha : (f s.strands[n]).active = s.strands[n].active) (hc : Goes as (ctxOf s n) (f s.strands[n]).ctx) :
    Entered n [] as s (mapBlock n f s) where
  cfg := rfl
  alarm := (Bool.or_false _).symm
  log := (congrArg Block.log (mapBlock_same n f s)).trans hl
  active _ _ := congrArg (isActive · _) ((congrArg Block.active (mapBlock_same n f s)).trans ha)
  ctx := by rwa [ctxOf_mapBlock]

theorem Entered.of_ctx {g : Ctx → Ctx} (h : Goes as (ctxOf s n) (g (ctxOf s n))) : Entered n [] as s (mapCtx n g s) :=
  .of_block rfl rfl h

/-- A change of the context that leaves its state and its lag count. -/
theorem Entered.of_fields {g : Ctx → Ctx} (hs : (g (ctxOf s n)).state = (ctxOf s n).state)
    (hl : (g (ctxOf s n)).lag = (ctxOf s n).lag) : Entered n [] [] s (mapCtx n g s) :=
  .of_ctx (.same hs hl)

theorem raise_entered (n : Strand) (k : Kind) (s : State) :
    Entered n [strandRecord s n k (observed s n)] [] s (raise n k s) where
  cfg := rfl
  alarm := congrArg (s.alarm || ·) (Bool.or_false _).symm
  log := congrArg Block.log (raise_val n s k)
  active _ _ := by rw [show (raise n k s).strands[n] = _ from raise_val n s k]; rfl
  ctx := .same (by rw [ctxOf_raise]) (by rw [ctxOf_raise])

theorem leaveFor_entered (n : Strand) (next : StrandState) (s : State) : Entered n [] [] s (leaveFor n next s) where
  cfg := (leaveFor_only n s next).cfg
  alarm := (leaveFor_alarm n next s).trans (Bool.or_false _).symm
  log := by rw [leaveFor_block]; rfl
  active _ _ := by rw [leaveFor_block]
  ctx := by
    obtain ⟨p, h⟩ := ctxOf_leaveFor n s next
    exact .same (by rw [h]) (by rw [h])

/-- An action enters no record (R148). -/
theorem applyAction_entered {a : Action} (h : a ≠ .stop) : Entered n [] [a] s (applyAction n a s) := by
  obtain h' | ⟨h', rfl, -⟩ | ⟨h', rfl⟩ | ⟨-, ha, -⟩ := applyAction_cases n s a
  · rw [h']
    exact ⟨rfl, (Bool.or_false _).symm, rfl, fun _ _ => rfl, .same rfl rfl⟩
  · rw [h']
    have hb := enterTripped_block n s
    refine ⟨(enterTripped_only n s).cfg, (leaveFor_alarm n _ s).trans (Bool.or_false _).symm, by rw [hb]; rfl,
      fun _ _ => by rw [hb], ?_⟩
    rw [show ctxOf (enterTripped n s) n = _ from congrArg Block.ctx hb]
    exact .trip List.mem_cons_self rfl rfl
  · rw [h']
    by_cases hg : ∃ g, holdState g = (ctxOf s n).state
    · obtain ⟨g, hg⟩ := hg
      have hb := holdStrand_block n s hg
      refine ⟨(holdStrand_only n s).cfg, (holdStrand_alarm n s).trans (Bool.or_false _).symm, by rw [hb]; rfl,
        fun _ _ => by rw [hb], ?_⟩
      rw [show ctxOf (holdStrand n s) n = _ from congrArg Block.ctx hb]
      exact .hold List.mem_cons_self hg rfl rfl
    · rw [holdStrand_none n s fun g e => hg ⟨g, e⟩]
      exact ⟨rfl, (Bool.or_false _).symm, rfl, fun _ _ => rfl, .same rfl rfl⟩
  · exact absurd ha h

theorem applyActions_entered (h : .stop ∉ as) : Entered n [] as s (applyActions n as s) := by
  induction as generalizing s with
  | nil => exact .refl n s
  | cons a as ih =>
    rw [List.mem_cons, not_or] at h
    exact (applyAction_entered (Ne.symm h.1)).trans (ih h.2)

/-! ## Deviations -/

/-- A stage at strand `n`: its records, of the kinds `ks`, and the actions steered for them. -/
def Deviates (n : Strand) (ks : List Kind) (s t : State) : Prop :=
  ∃ rs, Entered n rs (rs.map fun q => actionOf s.cfg q.kind) s t ∧ ∀ q ∈ rs, q.kind ∈ ks

theorem Entered.deviates {ks : List Kind} (h : Entered n [] [] s t) : Deviates n ks s t :=
  ⟨[], h, fun _ hq => absurd hq List.not_mem_nil⟩

theorem Deviates.trans {ks : List Kind} (h : Deviates n ks s t) (k : Deviates n ks t u) : Deviates n ks s u := by
  obtain ⟨rs, hr, hk⟩ := h
  obtain ⟨rs', hr', hk'⟩ := k
  refine ⟨rs ++ rs', ?_, fun q hq => (List.mem_append.1 hq).elim (hk q) (hk' q)⟩
  rw [hr.cfg] at hr'
  rw [List.map_append]
  exact hr.trans hr'

theorem Deviates.mono {ks ks' : List Kind} (h : Deviates n ks s t) (hk : ks ⊆ ks') : Deviates n ks' s t := by
  obtain ⟨rs, hr, hks⟩ := h
  exact ⟨rs, hr, fun q hq => hk (hks q hq)⟩

/-- A stage that records nothing applies no action. -/
theorem Deviates.entered (h : Deviates n [] s t) : Entered n [] [] s t := by
  obtain ⟨rs, hr, hk⟩ := h
  obtain rfl : rs = [] := List.eq_nil_iff_forall_not_mem.2 fun q hq => List.not_mem_nil (hk q hq)
  exact hr

theorem condKind_ne_changeOverrun (c : Cond) : condKind c ≠ .changeOverrun := by cases c <;> decide

theorem condKind_inj {c d : Cond} : condKind c = condKind d ↔ c = d := by
  cases c <;> cases d <;> simp [condKind]

theorem isActive_setActive (A : ActiveSet) (v : Bool) (c d : Cond) :
    isActive (setActive A v c) d = if d = c then v else isActive A d := by
  cases c <;> cases d <;> rfl

/-- A condition put into the active-condition set, with its record and its action (R153). -/
theorem checkCond_present_deviates (n : Strand) (k : Cond) (s : State) :
    Deviates n [condKind k] s (checkCond n k .present s).st := by
  unfold checkCond
  dsimp only
  split
  · exact (Entered.refl n s).deviates
  · have hraised := raise_entered n (condKind k) s
    have hset : Entered n [strandRecord s n (condKind k) (observed s n)] [] s
        (setCondition n k true (raise n (condKind k) s)) := by
      have hb := mapBlock_same n (fun b => { b with active := setActive b.active true k }) (raise n (condKind k) s)
      refine ⟨hraised.cfg, hraised.alarm, (congrArg Block.log hb).trans hraised.log, fun c hc => ?_, ?_⟩
      · have hne : condKind k ≠ condKind c := hc _ List.mem_cons_self
        rw [← hraised.active c hc, setCondition, hb, isActive_setActive, if_neg fun e => hne (congrArg condKind e.symm)]
      · rw [ctxOf_setCondition]
        exact hraised.ctx
    exact ⟨_, hset.trans (applyAction_entered (actionOf_ne_stop (condKind_ne_changeOverrun k))), by simp [strandRecord]⟩

/-! ## Stage 3 -/

theorem advanceTimer_entered (n : Strand) (s : State) : Entered n [] [] s (advanceTimer n s) := .of_fields rfl rfl

/-- A timeout (R14, R16, R108). -/
theorem timeoutTest_deviates {limit : Nat} (hk : k ≠ .changeOverrun) : Deviates n [k] s (timeoutTest n k limit s).st := by
  unfold timeoutTest
  split
  · exact (Entered.refl n s).deviates
  · split
    · have hraised := (advanceTimer_entered n s).trans (raise_entered n k (advanceTimer n s))
      have hnoted := hraised.trans (Entered.of_fields (g := fun c => { c with timeoutNoted := true }) rfl rfl)
      exact ⟨_, hnoted.trans (applyAction_entered (actionOf_ne_stop hk)), by simp [strandRecord]⟩
    · exact (advanceTimer_entered n s).deviates

theorem enterDwell_entered (h : (ctxOf s n).state = .fill) : Entered n [] [] s (enterDwell n s) :=
  .of_ctx (.phase rfl (.inl ⟨.inl h, .inl rfl⟩))

theorem enterWait_entered (h : (ctxOf s n).state = .fill ∨ (ctxOf s n).state = .dwell) :
    Entered n [] [] s (enterWait n s) := by
  obtain ⟨hc, ha, hl, hb, hg⟩ : Entered n [] [] s (mapCtx n (fun c => { c with
      state := .waitPermit, timer := 0, timeoutNoted := false
      levelTarget := (planSlot s n (refOf s n) 1).level }) s) :=
    .of_ctx (.phase rfl (.inl ⟨h, .inr rfl⟩))
  exact ⟨hc, ha, hl, hb, hg⟩

/-- The kinds that stage 4 records (R63, R64, R66). -/
def rampKinds : List Kind := [.speedLimit, .rateClamp, .rampShort]

/-- The kinds that stages 3 and 4 record at a strand in a state (R14, R16, R63 to R66). -/
def laterKinds : StrandState → List Kind
  | .fill => [.fillTimeout]
  | .waitPermit => [.permitWait]
  | .ramp | .cast => rampKinds
  | .idle | .dwell | .held | .change | .frozen | .stopping | .tripped => []

/-- Stage 3 (R8). -/
theorem timedStage_deviates (n : Strand) (r : Reading) (s : State) :
    Deviates n (laterKinds (ctxOf s n).state) s (timedStage n r s).st := by
  unfold timedStage
  split
  case h_1 h =>
    rw [h]
    unfold fillStage quiet
    split
    · split
      · exact (enterDwell_entered h).deviates
      · exact (enterWait_entered (.inl h)).deviates
    · exact timeoutTest_deviates (by decide)
  case h_2 h =>
    unfold dwellStage quiet
    dsimp only
    split
    · exact ((advanceTimer_entered n s).trans (enterWait_entered (.inr (by simpa using h)))).deviates
    · exact (advanceTimer_entered n s).deviates
  case h_3 h =>
    rw [h]
    exact timeoutTest_deviates (by decide)
  case h_4 h =>
    unfold floorTest quiet
    dsimp only
    split
    · split
      · exact (Entered.of_fields rfl rfl).deviates
      · exact (Entered.refl n s).deviates
    · exact (Entered.refl n s).deviates
  all_goals exact (Entered.refl n s).deviates

/-! ## Stage 4 -/

/-- What the Ramp Generator has made of `s`: its records, and their actions kept for the end of the stage (R9). -/
def Reported (n : Strand) (s : State) (x : Ramped) : Prop :=
  ∃ rs, Entered n rs [] s x.st ∧ x.actions = rs.map (fun q => actionOf s.cfg q.kind) ∧ ∀ q ∈ rs, q.kind ∈ rampKinds

theorem Entered.reported (h : Entered n [] [] s t) : Reported n s { st := t, actions := [] } :=
  ⟨[], h, rfl, fun _ hq => absurd hq List.not_mem_nil⟩

theorem Reported.step (h : Reported n s x) (ht : Entered n [] [] x.st t) : Reported n s { x with st := t } := by
  obtain ⟨rs, hr, ha, hk⟩ := h
  exact ⟨rs, by simpa using hr.trans ht, ha, hk⟩

theorem Reported.deviation (h : Reported n s x) (hk : k ∈ rampKinds) : Reported n s (rampDeviation n k x) := by
  obtain ⟨rs, hr, ha, hks⟩ := h
  refine ⟨_, hr.trans (raise_entered n k x.st), ?_, fun q hq => ?_⟩
  · rw [rampDeviation, ha, List.map_append, hr.cfg]
    rfl
  · obtain hq | hq := List.mem_append.1 hq
    · exact hks q hq
    · rw [List.mem_singleton.1 hq]
      exact hk

theorem Reported.startSlot (h : Reported n s x) (i : Nat) : Reported n s (startSlot n i x) := by
  unfold Machine.startSlot
  dsimp only
  split
  · exact (h.step (.of_fields rfl rfl)).deviation (by decide)
  · exact h.step (.of_fields rfl rfl)

theorem Reported.reportCap (h : Reported n s x) (l : Limited) : Reported n s (reportCap n l x) := by
  unfold Machine.reportCap
  split
  · exact (h.step (.of_fields rfl rfl)).deviation (by decide)
  · exact h

theorem Reported.reportClamp (h : Reported n s x) (l : Limited) : Reported n s (reportClamp n l x) := by
  unfold Machine.reportClamp
  split
  · exact (h.step (.of_fields rfl rfl)).deviation (by decide)
  · exact h

theorem enterCast_entered (h : (ctxOf s n).state = .ramp) : Entered n [] [] s (enterCast n s) := by
  unfold enterCast
  rw [← state_leaveFor n .cast s] at h
  exact (leaveFor_entered n .cast s).trans (.of_ctx (.phase rfl (.inr ⟨h, rfl⟩)))

theorem Reported.endSlot (h : Reported n s x) (hr : (ctxOf x.st n).state = .ramp) (i : SlotRun) :
    Reported n s (endSlot n i x) := by
  unfold Machine.endSlot
  dsimp only
  generalize hy : (if (ctxOf x.st n).target = some (ctxOf x.st n).speed then x
    else rampDeviation n .rampShort x) = y
  obtain ⟨hy', hyr⟩ : Reported n s y ∧ (ctxOf y.st n).state = .ramp := by
    rw [← hy]
    split
    · exact ⟨h, hr⟩
    · exact ⟨h.deviation (by decide), by rwa [rampDeviation, ctxOf_raise]⟩
  split
  · exact hy'.startSlot _
  · exact hy'.step (enterCast_entered hyr)

theorem rampStage_reported (h : (ctxOf s n).state = .ramp) : Reported n s (rampStage n s) := by
  unfold rampStage
  dsimp only
  split
  · generalize limitFor s n _ = l
    generalize ht : mapCtx n _ s = t
    have hs : (ctxOf t n).state = .ramp := by rw [← ht, ctxOf_mapCtx, h]
    have hstart : Reported n s { st := t, actions := [] } := by
      rw [← ht]
      exact (Entered.of_fields rfl rfl).reported
    have hreports := (hstart.reportCap l).reportClamp l
    split
    · exact hreports.endSlot ((((RampRun.start n t).reportCap l).reportClamp l).state.trans hs) _
    · exact hreports
  · exact (Entered.refl n s).reported

theorem castStage_reported (n : Strand) (s : State) : Reported n s (castStage n s) :=
  ((Entered.of_fields rfl rfl).reported.reportCap _).reportClamp _

theorem plainStage_entered (n : Strand) (y : Int) (s : State) : Entered n [] [] s (plainStage n y s) := .of_fields rfl rfl

theorem Reported.deviates {ks : List Kind} (h : Reported n s x) (hk : rampKinds ⊆ ks) :
    Deviates n ks s (applyActions n x.actions x.st) := by
  obtain ⟨rs, hr, ha, hks⟩ := h
  refine ⟨rs, ?_, fun q hq => hk (hks q hq)⟩
  have hstop : .stop ∉ x.actions := by
    rw [ha]
    intro hs
    obtain ⟨q, hq, e⟩ := List.mem_map.1 hs
    refine actionOf_ne_stop (fun hc => ?_) e
    have hmem := hks q hq
    rw [hc] at hmem
    exact absurd hmem (by decide)
  have h := hr.trans (applyActions_entered hstop)
  rw [List.append_nil, ha] at h
  rwa [ha]

/-- Stage 4 with its actions (R9). -/
theorem rampAndActions_deviates {ks : List Kind} (hk : isMoving (ctxOf s n).state = true → rampKinds ⊆ ks) :
    Deviates n ks s (rampAndActions n s).st := by
  unfold rampAndActions speedStage
  split
  case h_1 h => exact (rampStage_reported h).deviates (hk (by rw [h]; rfl))
  case h_2 h => exact (castStage_reported n s).deviates (hk (by rw [h]; rfl))
  case h_9 | h_10 | h_11 => exact (Entered.refl n s).deviates
  all_goals exact (plainStage_entered n _ s).deviates

/-! ## The rest of a period -/

theorem stopTest_entered (n : Strand) (r : Reading) (s : State) : Entered n [] [] s (stopTest n r s) := by
  unfold stopTest
  split
  · rename_i h
    exact .of_block rfl rfl (.idle h.1 rfl rfl)
  · exact .refl n s

theorem levelStage_entered (n : Strand) (r : Reading) (s : State) : Entered n [] [] s (levelStage n r s) := by
  refine .of_fields (loopStep_state _ _ _) ?_
  unfold loopStep
  split <;> rfl

theorem driveOutputs_entered (n : Strand) (s : State) : Entered n [] [] s (driveOutputs n s) :=
  .of_block rfl rfl (.same rfl rfl)

/-- Stages 5 to 7 enter no record. -/
theorem closePeriod_entered (n : Strand) (r : Reading) (s : State) : Entered n [] [] s (closePeriod n r s) :=
  ((stopTest_entered n r s).trans (levelStage_entered n r _)).trans (driveOutputs_entered n _)

/-- What follows stage 2 in a control period records the kinds of its state at most, and leaves the active-condition
set. -/
theorem later_deviates (n : Strand) (r : Reading) (s : State) :
    Deviates n (laterKinds (ctxOf s n).state) s (laterStages n r (timedStage n r s)) := by
  have hthree := timedStage_deviates n r s
  unfold laterStages
  generalize timedStage n r s = p at hthree
  have hramp : isMoving (ctxOf p.st n).state = true → rampKinds ⊆ laterKinds (ctxOf s n).state := by
    obtain ⟨rs, hr, -⟩ := hthree
    intro hm
    obtain h | h := isMoving_iff.1 (hr.ctx.moves hm).1 <;> rw [h] <;> exact fun _ => id
  have hfour : Deviates n (laterKinds (ctxOf s n).state) s (unlessCut (rampAndActions n) p).st := by
    unfold unlessCut
    split
    · exact hthree
    · exact hthree.trans (rampAndActions_deviates hramp)
  generalize unlessCut (rampAndActions n) p = q at hfour
  unfold unlessCut
  split
  · exact hfour
  · exact hfour.trans (closePeriod_entered n r q.st).deviates

end Operations

end Sys2Proof.Machine
end

section
/-! SUPPORT. The checks of stage 2 on a part: what each leaves where it finds its condition, and the lag count. -/

namespace Sys2Proof.Machine

open Sys2Proof

section Checks

variable {n : Strand} {b d : Block} {a : Arbiter} {al : Bool} {s t : State} {r : Reading} {k : Cond} {p : Period}
  {seen : Nat × Option Nat}

/-! ## A condition found -/

/-- The block once condition `k` has been recorded at its onset (R153). -/
def onsetBlock (s : State) (seen : Nat × Option Nat) (k : Cond) (b : Block) : Block :=
  { recordIn s.cfg s.store.time seen (condKind k) b with active := setActive b.active true k }

theorem checkCond_standing (h : isActive b.active k = true) :
    checkCond n k .present (withPart n b a al s) = { st := withPart n b a al s, cut := false } := by
  rw [checkCond, withPart_block, if_pos h]

theorem checkCond_onset (hs : b.sampled = some seen) (h : isActive b.active k = false) :
    checkCond n k .present (withPart n b a al s)
      = { st := applyAction n (actionOf s.cfg (condKind k))
            (withPart n (onsetBlock s seen k b) a (al || alarmOf s.cfg (condKind k)) s)
          cut := decide (actionOf s.cfg (condKind k) = .trip) } := by
  rw [checkCond, withPart_block, if_neg (by rw [h]; decide), raise_withPart (observed_withPart hs), setCondition,
    mapBlock_withPart]
  rfl

/-! ## The lag count -/

/-- The drive of a block lags on `r` (R152). -/
def lagsAt (r : Reading) (b : Block) : Bool :=
  isMoving b.ctx.state && decide (b.force.lagtol < speedGap b.outSpeed r.measured)

/-- The block with its lag count after the reading `r` (R152). -/
def counted (r : Reading) (b : Block) : Block :=
  { b with ctx := { b.ctx with lag := if lagsAt r b then lagUp (b.force.lagt * 2) b.ctx.lag else 0 } }

/-- A lag that brings the count of `b` to its limit, or finds it there (R152). -/
def lagFound (r : Reading) (b : Block) : Bool := lagsAt r b && decide (b.force.lagt * 2 ≤ b.ctx.lag)

theorem lagging_withPart : lagging (withPart n b a al s) n r = lagsAt r b := by
  rw [lagging, ctxOf_withPart, withPart_block, lagsAt]

theorem checkLag_withPart : checkLag n r (withPart n b a al s)
    = checkCond n .driveLag (found (lagFound r (counted r b))) (withPart n (counted r b) a al s) := by
  rw [checkLag, lagging_withPart, ctxOf_withPart, withPart_block, mapCtx_withPart]
  rfl

theorem counted_still (h : isMoving b.ctx.state = false) :
    counted r b = { b with ctx := { b.ctx with lag := 0 } } := by
  rw [counted, lagsAt, h, Bool.false_and]
  rfl

theorem lagFound_still (h : isMoving b.ctx.state = false) : lagFound r b = false := by
  rw [lagFound, lagsAt, h, Bool.false_and, Bool.false_and]

/-! ## The check of the lag and the stages after it -/

/-- What follows check 6 in a control period. -/
def fromLag (n : Strand) (r : Reading) (s : State) : State :=
  laterStages n r (unlessCut (timedStage n r) (checkLag n r s))

theorem laterStages_cut (h : p.cut = true) : laterStages n r (unlessCut (timedStage n r) p) = p.st := by
  have skip (f : State → Period) : unlessCut f p = p := if_pos h
  rw [skip, laterStages, skip, skip]

theorem laterStages_going (h : p.cut = false) :
    laterStages n r (unlessCut (timedStage n r) p) = laterStages n r (timedStage n r p.st) := by
  rw [show unlessCut (timedStage n r) p = timedStage n r p.st from if_neg (by rw [h]; decide)]

/-- An action takes a strand to HELD, TRIPPED or STOPPING, or leaves its state (R148). -/
theorem applyAction_state {act : Action} (h : act ≠ .stop) : (ctxOf (applyAction n act s) n).state = (ctxOf s n).state
    ∨ (ctxOf (applyAction n act s) n).state = .held ∨ (ctxOf (applyAction n act s) n).state = .tripped := by
  obtain h' | ⟨h', -⟩ | ⟨h', -⟩ | ⟨-, ha, -⟩ := applyAction_cases n s act
  · rw [h']
    exact .inl rfl
  · rw [h']
    exact .inr (.inr (down_enterTripped n s).state)
  · rw [h']
    by_cases hg : ∃ g, holdState g = (ctxOf s n).state
    · obtain ⟨g, hg⟩ := hg
      exact .inr (.inl (congrArg (·.ctx.state) (holdStrand_block n s hg)))
    · rw [holdStrand_none n s fun g e => hg ⟨g, e⟩]
      exact .inl rfl
  · exact absurd ha h

theorem checkCond_present_state (n : Strand) (k : Cond) (s : State) :
    (ctxOf (checkCond n k .present s).st n).state = (ctxOf s n).state
      ∨ (ctxOf (checkCond n k .present s).st n).state = .held
      ∨ (ctxOf (checkCond n k .present s).st n).state = .tripped := by
  unfold checkCond
  dsimp only
  split
  · exact .inl rfl
  · have h := applyAction_state (n := n) (s := setCondition n k true (raise n (condKind k) s))
      (actionOf_ne_stop (c := s.cfg) (condKind_ne_changeOverrun k))
    rwa [ctxOf_setCondition, ctxOf_raise] at h

/-- The kinds that check 7 and the stages after it record at a strand in a state. -/
def lagAndLaterKinds (st : StrandState) : List Kind := if isMoving st then .driveLag :: laterKinds st else laterKinds st

theorem laterKinds_subset (st : StrandState) : laterKinds st ⊆ lagAndLaterKinds st := by cases st <;> decide

/-- Check 7 and the stages after it, on a part: from a block that has lost DRIVE_LAG from its active-condition set at most,
and that has its lag counted, they record what they find and apply the actions steered for it. -/
theorem fromLag_deviates : ∃ u, u.log = d.log ∧ u.ctx = (counted r d).ctx
    ∧ (∀ c, c ≠ .driveLag → isActive u.active c = isActive d.active c)
    ∧ Deviates n (lagAndLaterKinds d.ctx.state) (withPart n u a al s) (fromLag n r (withPart n d a al s)) := by
  rw [fromLag, checkLag_withPart]
  cases hf : lagFound r (counted r d) with
  | false =>
    rw [found_eq_absent rfl, checkCond_absent, laterStages_going rfl]
    refine ⟨without .driveLag (counted r d), rfl, rfl, fun c hc => ?_, ?_⟩
    · exact (isActive_setActive _ _ _ _).trans (if_neg hc)
    · have h := later_deviates n r (withPart n (without .driveLag (counted r d)) a al s)
      rw [ctxOf_withPart] at h
      exact h.mono (laterKinds_subset _)
  | true =>
    refine ⟨counted r d, rfl, rfl, fun c _ => rfl, ?_⟩
    have hmoving : isMoving d.ctx.state = true := by
      cases hm : isMoving d.ctx.state with
      | true => rfl
      | false => exact absurd hf (by rw [lagFound_still (b := counted r d) hm]; decide)
    have hkinds : lagAndLaterKinds d.ctx.state = .driveLag :: laterKinds d.ctx.state := if_pos hmoving
    have hlag := checkCond_present_deviates n .driveLag (withPart n (counted r d) a al s)
    have hstate := checkCond_present_state n .driveLag (withPart n (counted r d) a al s)
    rw [ctxOf_withPart] at hstate
    rw [hkinds, show found true = .present from rfl]
    generalize checkCond n .driveLag .present (withPart n (counted r d) a al s) = q at hlag hstate
    replace hlag : Deviates n (.driveLag :: laterKinds d.ctx.state) _ q.st :=
      hlag.mono (List.cons_subset_cons _ (List.nil_subset _))
    cases hc : q.cut with
    | true =>
      rw [laterStages_cut hc]
      exact hlag
    | false =>
      rw [laterStages_going hc]
      refine hlag.trans ((later_deviates n r q.st).mono ?_)
      obtain h | h | h := hstate <;> rw [h]
      · exact List.subset_cons_self _ _
      · exact List.nil_subset _
      · exact List.nil_subset _

/-- A strand in HELD moves nothing more in a period than lag count, setpoint, stopper and integrator (R67, R152). -/
theorem fromLag_held (h : d.ctx.state = .held) : ∃ u v w i, fromLag n r (withPart n d a al s) = withPart n u a al s
    ∧ u.ctx = { d.ctx with lag := 0, speed := v, stopper := w, integrator := i } ∧ u.log = d.log
    ∧ ∀ c, c ≠ .driveLag → isActive u.active c = isActive d.active c := by
  have hm : isMoving d.ctx.state = false := by rw [h]; rfl
  obtain ⟨e, helog, -, heactive, hdev⟩ := fromLag_deviates (n := n) (d := d) (a := a) (al := al) (s := s) (r := r)
  rw [h] at hdev
  have hent := hdev.entered
  have htimed : timedStage n r (withPart n (without .driveLag (counted r d)) a al s)
      = { st := withPart n (without .driveLag (counted r d)) a al s, cut := false } := by
    have hst : (without .driveLag (counted r d)).ctx.state = .held := h
    rw [timedStage, ctxOf_withPart, hst]
  obtain ⟨u, v, w, i, hu, huc, hul⟩ := laterStages_stands (r := r) htimed (.inr (.inr (.inr h)))
  have hperiod : fromLag n r (withPart n d a al s) = withPart n u a al s := by
    rw [fromLag, checkLag_withPart, lagFound_still (b := counted r d) hm, found_eq_absent rfl, checkCond_absent,
      laterStages_going rfl, hu]
  refine ⟨u, v, w, i, hperiod, ?_, hul, fun c hc => ?_⟩
  · rw [huc]
    show { (counted r d).ctx with speed := v, stopper := w, integrator := i } = _
    rw [counted_still hm]
  · have hactive := hent.active c fun _ hq => absurd hq List.not_mem_nil
    rw [hperiod, withPart_block, withPart_block] at hactive
    exact hactive.trans (heactive c hc)

/-! ## Stage 2 on an invalid sample -/

/-- The block after check 6 on an invalid sample: outside RAMP and CAST LEVEL_LOW leaves the set (R89, R93). -/
def lowOpen (b : Block) : Block := if isMoving b.ctx.state then b else without .levelLow b

theorem lowOpen_ctx (b : Block) : (lowOpen b).ctx = b.ctx := by
  unfold lowOpen
  split <;> rfl

theorem lowOpen_log (b : Block) : (lowOpen b).log = b.log := by
  unfold lowOpen
  split <;> rfl

theorem lowOpen_active {c : Cond} (h : c ≠ .levelLow) : isActive (lowOpen b).active c = isActive b.active c := by
  unfold lowOpen
  split
  · rfl
  · exact (isActive_setActive _ _ _ _).trans (if_neg h)

theorem checkLevelLow_open (hlevel : r.level = none) :
    checkLevelLow n r (withPart n b a al s) = { st := withPart n (lowOpen b) a al s, cut := false } := by
  rw [checkLevelLow, ctxOf_withPart, hlevel, lowOpen]
  cases hm : isMoving b.ctx.state with
  | true => rfl
  | false => exact checkCond_absent

/-- The block as the first two checks leave it where they find nothing. -/
def ungauged (b : Block) : Block := without .interlockLost (without .breakout b)

/-- A control period on an invalid sample, with neither a breakout nor a lost interlock: GAUGE_FAULT is found, and unless
its action ends the period the lag is counted and the stages follow (R89, R90). -/
theorem periodOn_blind {prior : List Nat} (hbreakout : r.breakout = false) (hready : r.ready = true)
    (hlevel : r.level = none) (hw : isWatched b.ctx.state = true) (hp : checkCond n .gaugeFault .present (withPart n (ungauged b) a al s) = p) :
    (p.cut = true → checks n r prior (withPart n b a al s) = p)
      ∧ ∀ d a' al', p = { st := withPart n d a' al' s, cut := false } → isWatched d.ctx.state = true →
        laterStages n r (unlessCut (timedStage n r) (checks n r prior (withPart n b a al s)))
          = fromLag n r (withPart n (lowOpen d) a' al' s) := by
  have hgauge : checkGauge n r (withPart n (ungauged b) a al s) = p := by
    rw [checkGauge, ctxOf_withPart, hlevel, ← hp]
    exact congrArg (fun c => checkCond n .gaugeFault (found (c && true)) _) hw
  have hchecks : checks n r prior (withPart n b a al s) = unlessCut (checkLag n r) (unlessCut (checkLevelLow n r)
      (unlessCut (checkSuspect n r prior) (unlessCut (checkLevelHigh n r) p))) := by
    rw [checks, checkBreakout_none (by rw [hbreakout, Bool.and_false]), unlessCut_going,
      checkInterlock_none (b := without .breakout b) (by rw [hready]; exact Bool.and_false _), unlessCut_going]
    exact congrArg (fun q => unlessCut (checkLag n r) (unlessCut (checkLevelLow n r) (unlessCut (checkSuspect n r prior)
      (unlessCut (checkLevelHigh n r) q)))) hgauge
  refine ⟨fun hc => ?_, fun d a' al' hd hwd => ?_⟩
  · have skip (f : State → Period) : unlessCut f p = p := if_pos hc
    rw [hchecks, skip, skip, skip, skip]
  · rw [hchecks, hd, unlessCut_going, checkLevelHigh_open hlevel hwd, unlessCut_going,
      checkSuspect_none (fun l h => by rw [hlevel] at h; cases h), unlessCut_going, checkLevelLow_open hlevel,
      unlessCut_going]
    rfl

end Checks

end Sys2Proof.Machine
end

section
/-! PROOF. A gauge fault: its record at the onset, its action, and what the rest of the period may add (R81, R87, R90,
R153). -/

namespace Sys2Proof.Machine

open Sys2Proof

section Gauge

variable {n : Strand} {b d : Block} {a : Arbiter} {al : Bool} {s t : State} {x : Sample} {act : Action}

/-! ## The part on an invalid sample -/

/-- The block of a strand on an invalid sample, with neither a breakout nor a lost interlock, as check 3 finds it. -/
structure BlindPart (s : State) (n : Strand) (x : Sample) (b : Block) : Prop where
  log     : b.log = s.strands[n].log
  sampled : b.sampled = some (min x.measured 8000, validLevel x)
  active  : isActive b.active .gaugeFault = s.strands[n].active.gaugeFault
  ctx     : ∃ h e m lt, b.ctx = { ctxOf s n with history := h, extremes := e, mode := m, levelTarget := lt }
  mode    : b.ctx.mode = if (ctxOf s n).mode = .off then .off else .holdLast

theorem ungauged_blind (hlevel : validLevel x = none) :
    BlindPart s n x (ungauged (openedBlock s.cfg.strands[n] (readSample x) s.strands[n])) where
  log := rfl
  sampled := rfl
  active := rfl
  ctx := openedBlock_ctx _ _ _
  mode := by
    obtain ⟨-, -, -, -, -, -, hmode, -⟩ := openedCtx_fields s.cfg.strands[n] (readSample x) (ctxOf s n)
    rw [show (readSample x).level = none from hlevel] at hmode
    refine hmode.trans ?_
    dsimp only
    cases (ctxOf s n).mode <;> rfl

section BlindPart

variable (h : BlindPart s n x b)
include h

theorem BlindPart.state : b.ctx.state = (ctxOf s n).state := by
  obtain ⟨_, _, _, _, hc⟩ := h.ctx
  rw [hc]

theorem BlindPart.record (k : Kind) :
    blockRecord s.cfg s.store.time (min x.measured 8000, validLevel x) b k = periodRecord s n x k := by
  obtain ⟨_, _, _, _, hc⟩ := h.ctx
  rw [blockRecord, hc]
  rfl

theorem BlindPart.onset_log (k : Cond) : (onsetBlock s (min x.measured 8000, validLevel x) k b).log
    = logRecord s.strands[n].log (periodRecord s n x (condKind k)) (condKind k) (alarmOf s.cfg (condKind k)) := by
  rw [← h.record, ← h.log]
  rfl

theorem BlindPart.holdReturn : b.ctx.holdReturn = (ctxOf s n).holdReturn := by
  obtain ⟨_, _, _, _, hc⟩ := h.ctx
  rw [hc]

end BlindPart

/-- The block once GAUGE_FAULT is in its active-condition set, the strand left where it was, with the log `g`. -/
structure FaultPart (s : State) (n : Strand) (g : Log StrandRec) (d : Block) : Prop where
  log        : d.log = g
  active     : isActive d.active .gaugeFault = true
  state      : d.ctx.state = (ctxOf s n).state
  holdReturn : d.ctx.holdReturn = (ctxOf s n).holdReturn
  mode       : d.ctx.mode = if (ctxOf s n).mode = .off then .off else .holdLast

theorem BlindPart.fault (h : BlindPart s n x b) {g : Log StrandRec} (hc : d.ctx = b.ctx)
    (ha : isActive d.active .gaugeFault = true) (hl : d.log = g) : FaultPart s n g (lowOpen d) where
  log := (lowOpen_log d).trans hl
  active := (lowOpen_active (by decide)).trans ha
  state := by rw [lowOpen_ctx, hc, h.state]
  holdReturn := by rw [lowOpen_ctx, hc, h.holdReturn]
  mode := by rw [lowOpen_ctx, hc, h.mode]

theorem periodOn_eq (n : Strand) (r : Reading) (s : State) : periodOn n r s
    = laterStages n r (unlessCut (timedStage n r) (checks n r (suspectHistory s.strands[n])
        (withPart n (openedBlock s.cfg.strands[n] r s.strands[n]) s.arb s.alarm s))) := rfl

/-- An action that neither trips the strand nor holds it where it is (R148). -/
abbrev leaves (act : Action) (c : Ctx) : Prop := act = .note ∨ (act = .hold ∧ ∀ g, holdState g ≠ c.state)

theorem applyAction_leaves (h : leaves act b.ctx) : applyAction n act (withPart n b a al s) = withPart n b a al s := by
  obtain rfl | ⟨rfl, hg⟩ := h
  · rfl
  · exact applyAction_hold_still hg

section Period

variable (hbreakout : x.breakout = false) (hready : x.ready = true) (hlevel : validLevel x = none)
  (hi : (ctxOf s n).state ≠ .idle) (ht : (ctxOf s n).state ≠ .tripped)
include hbreakout hready hlevel hi ht

/-- A period on such a sample by what check 3 makes of the part it finds (R9, R90). -/
theorem periodOn_gauge : ∃ b, BlindPart s n x b ∧ ∀ p, checkCond n .gaugeFault .present (withPart n b s.arb s.alarm s) = p →
    (p.cut = true → periodOn n (readSample x) s = p.st)
      ∧ ∀ d a' al', p = { st := withPart n d a' al' s, cut := false } → isWatched d.ctx.state = true →
        periodOn n (readSample x) s = fromLag n (readSample x) (withPart n (lowOpen d) a' al' s) := by
  refine ⟨_, ungauged_blind hlevel, fun p hp => ?_⟩
  have hw : isWatched (openedBlock s.cfg.strands[n] (readSample x) s.strands[n]).ctx.state = true := by
    rw [openedBlock_state]
    exact isWatched_iff.2 ⟨hi, ht⟩
  obtain ⟨hcut, hgoing⟩ := periodOn_blind (prior := suspectHistory s.strands[n]) (r := readSample x) hbreakout hready hlevel
    hw hp
  refine ⟨fun hc => ?_, fun d a' al' hd hwd => ?_⟩
  · rw [periodOn_eq, hcut hc, laterStages_cut hc]
  · rw [periodOn_eq, hgoing d a' al' hd hwd]

/-- Under TRIP a gauge fault ends the period at its onset (R148). -/
theorem gauge_trips (honset : s.strands[n].active.gaugeFault = false) (hact : actionOf s.cfg .gaugeFault = .trip) :
    ∃ u a', periodOn n (readSample x) s = withPart n (trippedBlock u) a' (s.alarm || alarmOf s.cfg .gaugeFault) s
      ∧ u.log = logRecord s.strands[n].log (periodRecord s n x .gaugeFault) .gaugeFault (alarmOf s.cfg .gaugeFault) := by
  obtain ⟨b, hb, hperiod⟩ := periodOn_gauge hbreakout hready hlevel hi ht
  rw [← hb.state] at hi ht
  exact ⟨_, _, (hperiod _ (checkCond_onset_trip hb.sampled hi ht (hb.active.trans honset) hact)).1 rfl,
    hb.onset_log .gaugeFault⟩

/-- Under HOLD a gauge fault holds a strand that may be held, at its onset (R21, R148). -/
theorem gauge_holds {g : HoldReturn} (honset : s.strands[n].active.gaugeFault = false)
    (hact : actionOf s.cfg .gaugeFault = .hold) (hg : holdState g = (ctxOf s n).state) : ∃ b u v w i, BlindPart s n x b
    ∧ periodOn n (readSample x) s = withPart n u
        (if g = .waitPermit then { s.arb with queue := s.arb.queue.filter (·.strand != n) } else s.arb)
        (s.alarm || alarmOf s.cfg .gaugeFault) s
    ∧ u.ctx = { b.ctx with state := .held, holdReturn := some g, lag := 0, speed := v, stopper := w, integrator := i }
    ∧ u.active.gaugeFault = true
    ∧ u.log = logRecord s.strands[n].log (periodRecord s n x .gaugeFault) .gaugeFault (alarmOf s.cfg .gaugeFault) := by
  obtain ⟨b, hb, hperiod⟩ := periodOn_gauge hbreakout hready hlevel hi ht
  have hgauge := checkCond_onset (n := n) (a := s.arb) (al := s.alarm) (s := s) hb.sampled (hb.active.trans honset)
  rw [show condKind .gaugeFault = .gaugeFault from rfl, hact, show applyAction n .hold _ = _ from
    holdStrand_withPart (b := onsetBlock s (min x.measured 8000, validLevel x) .gaugeFault b) (hg.trans hb.state.symm)]
    at hgauge
  have hend := (hperiod _ hgauge).2 _ _ _ rfl rfl
  generalize hd : lowOpen _ = d at hend
  have hdst : d.ctx.state = .held := by rw [← hd, lowOpen_ctx]
  obtain ⟨u, v, w, i, hu, huc, hul, hua⟩ := fromLag_held (n := n) (a := if g = .waitPermit then
    { s.arb with queue := s.arb.queue.filter (·.strand != n) } else s.arb) (al := s.alarm || alarmOf s.cfg .gaugeFault)
    (s := s) (r := readSample x) hdst
  refine ⟨b, u, v, w, i, hb, hend.trans hu, ?_, ?_, ?_⟩
  · rw [huc, ← hd, lowOpen_ctx]
    rfl
  · refine (hua .gaugeFault (by decide)).trans ?_
    rw [← hd]
    exact lowOpen_active (by decide)
  · rw [hul, ← hd, lowOpen_log]
    exact hb.onset_log .gaugeFault

/-- A gauge fault whose action leaves the strand where it is: the rest of the period follows its record (R148). -/
theorem gauge_recorded (honset : s.strands[n].active.gaugeFault = false)
    (hact : leaves (actionOf s.cfg .gaugeFault) (ctxOf s n)) : ∃ d,
    FaultPart s n
        (logRecord s.strands[n].log (periodRecord s n x .gaugeFault) .gaugeFault (alarmOf s.cfg .gaugeFault)) d
      ∧ periodOn n (readSample x) s
        = fromLag n (readSample x) (withPart n d s.arb (s.alarm || alarmOf s.cfg .gaugeFault) s) := by
  obtain ⟨b, hb, hperiod⟩ := periodOn_gauge hbreakout hready hlevel hi ht
  have hgauge := checkCond_onset (n := n) (a := s.arb) (al := s.alarm) (s := s) hb.sampled (hb.active.trans honset)
  have hstays : leaves (actionOf s.cfg .gaugeFault)
      (onsetBlock s (min x.measured 8000, validLevel x) .gaugeFault b).ctx :=
    hact.imp_right (And.imp_right fun hg g => (hg g).trans_eq hb.state.symm)
  have hgoes : decide (actionOf s.cfg .gaugeFault = .trip) = false := by
    obtain h | ⟨h, -⟩ := hact <;> rw [h] <;> rfl
  rw [show condKind .gaugeFault = .gaugeFault from rfl, hgoes, applyAction_leaves hstays] at hgauge
  exact ⟨_, hb.fault (d := onsetBlock _ _ _ b) rfl rfl (hb.onset_log .gaugeFault),
    (hperiod _ hgauge).2 _ _ _ rfl (isWatched_iff.2 ⟨hb.state.trans_ne hi, hb.state.trans_ne ht⟩)⟩

/-- A gauge fault that lasts leaves the strand to the rest of the period (R153). -/
theorem gauge_lasts (hlasts : s.strands[n].active.gaugeFault = true) : ∃ d, FaultPart s n s.strands[n].log d
    ∧ periodOn n (readSample x) s = fromLag n (readSample x) (withPart n d s.arb s.alarm s) := by
  obtain ⟨b, hb, hperiod⟩ := periodOn_gauge hbreakout hready hlevel hi ht
  have hgauge := checkCond_standing (n := n) (a := s.arb) (al := s.alarm) (s := s) (hb.active.trans hlasts)
  exact ⟨_, hb.fault rfl (hb.active.trans hlasts) hb.log,
    (hperiod _ hgauge).2 _ _ _ rfl (isWatched_iff.2 ⟨hb.state.trans_ne hi, hb.state.trans_ne ht⟩)⟩

end Period

/-! ## The rest of the period -/

/-- The kinds that check 7 and the stages after it record, in any state. -/
theorem lagAndLaterKinds_subset (st : StrandState) : lagAndLaterKinds st
    ⊆ [.fillTimeout, .permitWait, .speedLimit, .rateClamp, .rampShort, .driveLag] := by cases st <;> decide

theorem ne_gaugeFault_of_later {st : StrandState} {k : Kind} (h : k ∈ lagAndLaterKinds st) : k ≠ .gaugeFault := by
  rintro rfl
  exact absurd (lagAndLaterKinds_subset st h) (by decide)

/-- In HOLD_LAST a period leaves stopper and integrator (R87). -/
theorem periodOn_holdLast (hrun : s.phase = .running) (hm : (ctxOf (periodOn n (readSample x) s) n).mode = .holdLast) :
    (ctxOf (periodOn n (readSample x) s) n).stopper = (ctxOf s n).stopper
      ∧ (ctxOf (periodOn n (readSample x) s) n).integrator = (ctxOf s n).integrator := by
  obtain ⟨-, -, -, -, -, -, hlast, -⟩ := controlPeriodIsItsStrandsOwn.2 n x s _ hrun (exec_period hrun)
  exact (hlast hm).2

/-- The rest of a period after a gauge fault that left the strand where it was: any record follows GAUGE_FAULT in the log,
and a trip or a hold is the action of one of them (R148, R153). -/
theorem FaultPart.rest {g : Log StrandRec} {r : Reading} (h : FaultPart s n g d)
    (hend : t = fromLag n r (withPart n d a al s)) : ∃ rs,
    (∀ q ∈ rs, q.kind ∈ lagAndLaterKinds (ctxOf s n).state) ∧ t.strands[n].log = enterAll rs g
      ∧ t.alarm = (al || rs.any StrandRec.mark) ∧ t.strands[n].active.gaugeFault = true
      ∧ ((ctxOf t n).state = .tripped → (ctxOf s n).state = .tripped ∨ ∃ q ∈ rs, actionOf s.cfg q.kind = .trip)
      ∧ ((ctxOf t n).state = .held → (ctxOf s n).state = .held ∨ ∃ q ∈ rs, actionOf s.cfg q.kind = .hold)
      ∧ (rests (ctxOf s n).state → (ctxOf t n).state = (ctxOf s n).state ∨ (ctxOf t n).state = .tripped) := by
  obtain ⟨u, hul, huc, hua, rs, hr, hk⟩ := fromLag_deviates (n := n) (d := d) (a := a) (al := al) (s := s) (r := r)
  have hus : u.ctx.state = (ctxOf s n).state := (congrArg Ctx.state huc).trans h.state
  rw [← hend] at hr
  have hctx := hr.ctx
  rw [ctxOf_withPart] at hctx
  rw [h.state] at hk
  have hsteered {act : Action} (hm : act ∈ rs.map fun q => actionOf s.cfg q.kind) :
      ∃ q ∈ rs, actionOf s.cfg q.kind = act := List.mem_map.1 hm
  refine ⟨rs, hk, ?_, hr.alarm, ?_, fun ht => ?_, fun hh => ?_, fun hrest => ?_⟩
  · rw [hr.log, withPart_block, hul, h.log]
  · refine (hr.active .gaugeFault fun q hq => ne_gaugeFault_of_later (hk q hq)).trans ?_
    rw [withPart_block, hua _ (by decide)]
    exact h.active
  · exact (hctx.trips ht).imp (hus.symm.trans ·) hsteered
  · exact (hctx.holds hh).imp (hus.symm.trans ·) hsteered
  · rw [← hus] at hrest ⊢
    exact hctx.rests hrest

/-- In HELD the period ends in HELD with the loop in HOLD_LAST, and with the log as check 3 left it (R87). -/
theorem FaultPart.held {g : Log StrandRec} {r : Reading} (h : FaultPart s n g d) (hst : (ctxOf s n).state = .held)
    (hmode : (ctxOf s n).mode ≠ .off) (hend : t = fromLag n r (withPart n d a al s)) :
    (ctxOf t n).state = .held ∧ (ctxOf t n).holdReturn = (ctxOf s n).holdReturn ∧ (ctxOf t n).mode = .holdLast
      ∧ t.strands[n].active.gaugeFault = true ∧ t.strands[n].log = g := by
  obtain ⟨u, v, w, i, hu, huc, hul, hua⟩ := fromLag_held (n := n) (a := a) (al := al) (s := s) (r := r) (h.state.trans hst)
  rw [hend, hu, ctxOf_withPart, withPart_block, huc]
  exact ⟨h.state.trans hst, h.holdReturn, h.mode.trans (if_neg hmode), (hua _ (by decide)).trans h.active, hul.trans h.log⟩

theorem leaves_of_held (hst : (ctxOf s n).state = .held) (ht : act ≠ .trip) (hs : act ≠ .stop) :
    leaves act (ctxOf s n) := by
  cases act with
  | note => exact .inl rfl
  | hold => exact .inr ⟨rfl, fun g e => by rw [hst] at e; cases g <;> cases e⟩
  | stop => exact absurd rfl hs
  | trip => exact absurd rfl ht

/-- The states in which check 7 and the stages after it record nothing, and which an invalid sample leaves alone (R148). -/
theorem FaultPart.quiet {g : Log StrandRec} {r : Reading} (h : FaultPart s n g d)
    (hend : t = fromLag n r (withPart n d a al s)) (hst : (ctxOf s n).state = .held ∨ (ctxOf s n).state = .change
      ∨ (ctxOf s n).state = .frozen ∨ (ctxOf s n).state = .stopping) :
    t.strands[n].log = g ∧ t.alarm = al ∧ (ctxOf t n).state ≠ .tripped
      ∧ ((ctxOf t n).state = .held ↔ (ctxOf s n).state = .held) := by
  obtain ⟨rs, hk, hl, hal, -, htrips, hholds, hrests⟩ := h.rest hend
  have hnone : lagAndLaterKinds (ctxOf s n).state = [] := by obtain h | h | h | h := hst <;> rw [h] <;> rfl
  have ht : (ctxOf s n).state ≠ .tripped := by obtain h | h | h | h := hst <;> rw [h] <;> decide
  rw [hnone] at hk
  obtain rfl : rs = [] := List.eq_nil_iff_forall_not_mem.2 fun q hq => List.not_mem_nil (hk q hq)
  have hnot {act : Action} : ¬ ∃ q ∈ ([] : List StrandRec), actionOf s.cfg q.kind = act := by simp
  have htripped : (ctxOf t n).state ≠ .tripped := fun h => (htrips h).elim ht hnot
  refine ⟨hl, hal.trans (Bool.or_false _), htripped, fun h => (hholds h).resolve_right hnot, fun h => ?_⟩
  exact ((hrests (.inl h)).resolve_right htripped).trans h

/-- Settles O18. -/
theorem gaugeFaultIsRecordedAtOnset : Obligations.GaugeFaultIsRecordedAtOnset := by
  constructor
  · intro n x s hrun hst hbreakout hready hlevel hact hmode
    have hi : (ctxOf s n).state ≠ .idle := by rw [hst]; decide
    have ht : (ctxOf s n).state ≠ .tripped := by rw [hst]; decide
    refine ⟨_, exec_period hrun, ?_⟩
    cases hlasts : s.strands[n].active.gaugeFault with
    | true =>
      obtain ⟨d, hd, hend⟩ := gauge_lasts hbreakout hready hlevel hi ht hlasts
      obtain ⟨hs, hh, hm, ha, hl⟩ := hd.held hst hmode hend
      obtain ⟨hw, hi⟩ := periodOn_holdLast hrun hm
      exact ⟨hs, hh, hm, hw, hi, ha, fun _ => hl, nofun⟩
    | false =>
      obtain ⟨d, hd, hend⟩ := gauge_recorded hbreakout hready hlevel hi ht hlasts
        (leaves_of_held hst hact (actionOf_ne_stop (by decide)))
      obtain ⟨hs, hh, hm, ha, hl⟩ := hd.held hst hmode hend
      obtain ⟨hw, hi⟩ := periodOn_holdLast hrun hm
      exact ⟨hs, hh, hm, hw, hi, ha, nofun, fun _ => ⟨_, rfl, hlevel, hl⟩⟩
  · intro n x s hrun hbreakout hready hlevel hi ht c b alarm entered
    refine ⟨_, exec_period hrun, fun honset hact => ?_, fun honset hact g hg => ?_, fun honset hact => ?_,
      fun hlasts => ?_⟩
    · obtain ⟨u, a', hu, hul⟩ := gauge_trips hbreakout hready hlevel hi ht honset hact
      rw [hu, ctxOf_withPart, withPart_block]
      exact ⟨rfl, rfl, rfl, hul, rfl⟩
    · obtain ⟨b, u, v, w, i, hb, hu, huc, hua, hul⟩ := gauge_holds hbreakout hready hlevel hi ht honset hact hg
      have hctx : ctxOf (periodOn n (readSample x) s) n = u.ctx := by rw [hu, ctxOf_withPart]
      have hmode : (ctxOf (periodOn n (readSample x) s) n).mode = if c.mode = .off then .off else .holdLast := by
        rw [hctx, huc]
        exact hb.mode
      obtain ⟨_, _, _, _, hc⟩ := hb.ctx
      refine ⟨by rw [hu]; rfl, ?_, ?_, hmode, fun hm => periodOn_holdLast hrun (hmode.trans (if_neg hm)), ?_⟩
      · rw [hctx, huc]
      · rw [hctx, huc]
      · rw [hctx, huc, hc, hu, withPart_block]
        exact ⟨rfl, rfl, rfl, hua, hul⟩
    · obtain ⟨d, hd, hend⟩ := gauge_recorded hbreakout hready hlevel hi ht honset hact
      obtain ⟨rs, hk, hl, hal, ha, htrips, hholds, -⟩ := hd.rest hend
      have hfirst : entered.first ≠ none := logRecord_first_ne_none
      intro other
      have others {act : Action} (h : ∃ q ∈ rs, actionOf s.cfg q.kind = act) : other act := by
        obtain ⟨q, hq, hqa⟩ := h
        obtain ⟨e, he, hek⟩ := enterAll_has (g := entered) hfirst hq
        refine ⟨e, hl ▸ he, hek ▸ hqa, ?_⟩
        rw [hek]
        exact lagAndLaterKinds_subset _ (hk q hq)
      refine ⟨ha, ?_, ?_, ?_, fun h => others ((htrips h).resolve_left ht),
        fun h hc => others ((hholds h).resolve_left hc), hd.quiet hend⟩
      · rw [hl]
        exact enterAll_first hfirst
      · rw [hl]
        exact enterAll_keeps
      · intro halm
        rw [hal, halm, Bool.or_true, Bool.true_or]
    · obtain ⟨d, hd, hend⟩ := gauge_lasts hbreakout hready hlevel hi ht hlasts
      obtain ⟨rs, hk, hl, -⟩ := hd.rest hend
      rw [hl]
      exact enterAll_addsNone fun q hq => ne_gaugeFault_of_later (hk q hq)

end Gauge

end Sys2Proof.Machine
end

section
/-! SUPPORT. Stage 2 on a valid sample on which one check finds something: the checks named by their kinds, what each leaves
of a part, and the active-condition set they leave together (R149, R153). -/

namespace Sys2Proof.Machine

open Sys2Proof

/-! ## Kinds in the active-condition set -/

/-- The condition of a kind; none for an event kind (R153). -/
def condOf : Kind → Option Cond
  | .breakout => some .breakout
  | .levelHigh => some .levelHigh
  | .levelLow => some .levelLow
  | .gaugeFault => some .gaugeFault
  | .interlockLost => some .interlockLost
  | .driveLag => some .driveLag
  | _ => none

theorem condOf_condKind (c : Cond) : condOf (condKind c) = some c := by cases c <;> rfl

/-- The active-condition set with a kind put in or taken out; an event kind changes nothing. -/
def setKind (k : Kind) (v : Bool) (A : ActiveSet) : ActiveSet :=
  match condOf k with
  | some c => setActive A v c
  | none => A

theorem setKind_condKind (c : Cond) (v : Bool) (A : ActiveSet) : setKind (condKind c) v A = setActive A v c := by
  rw [setKind, condOf_condKind]

theorem isActive_setKind (k : Kind) (v : Bool) (A : ActiveSet) (c : Cond) :
    isActive (setKind k v A) c = if condKind c = k then v else isActive A c := by
  unfold setKind
  split
  · rename_i d hd
    have hk : condKind c = k ↔ c = d := by
      cases k <;> simp only [condOf, Option.some.injEq, reduceCtorEq] at hd <;> subst hd <;> cases c <;> decide
    rw [isActive_setActive]
    simp only [hk]
  · rename_i hn
    rw [if_neg]
    rintro rfl
    rw [condOf_condKind] at hn
    cases hn

/-- The block with the kinds `ks` out of its active-condition set. -/
def dropped (ks : List Kind) (b : Block) : Block :=
  { b with active := ks.foldl (fun A k => setKind k false A) b.active }

theorem isActive_dropped (ks : List Kind) (b : Block) (c : Cond) :
    isActive (dropped ks b).active c = if condKind c ∈ ks then false else isActive b.active c := by
  induction ks generalizing b with
  | nil => simp [dropped]
  | cons k ks ih =>
    refine (ih { b with active := setKind k false b.active }).trans ?_
    rw [isActive_setKind]
    by_cases hk : condKind c = k <;> by_cases hs : condKind c ∈ ks <;> simp [hk, hs]

/-- No condition of kind `k` is in the active-condition set: the kind is found at its onset (R153). -/
abbrev atOnset (k : Kind) (b : Block) : Prop := ∀ c : Cond, condKind c = k → isActive b.active c = false

theorem active_of_standing {k : Kind} {b : Block} {c : Cond} (h : ¬ atOnset k b) (hc : condKind c = k) :
    isActive b.active c = true := by
  by_contra hn
  refine h fun d hd => ?_
  obtain rfl : d = c := condKind_inj.1 (hd.trans hc.symm)
  exact Bool.eq_false_iff.2 hn

/-! ## The checks by their kinds -/

section Checks

variable {n : Strand} {b u : Block} {a a' : Arbiter} {al al' : Bool} {s : State} {r : Reading} {l : Nat} {k : Kind}
  {prior : List Nat} {seen : Nat × Option Nat} {p : Period}

/-- Whether the check of a kind finds it at a block; the count of DRIVE_LAG has been made (R89 to R93, R150 to R152). -/
def hit (r : Reading) (prior : List Nat) (k : Kind) (b : Block) : Bool :=
  match k with
  | .breakout => isWatched b.ctx.state && r.breakout
  | .interlockLost => isInterlocked b.ctx.state && !r.ready
  | .gaugeFault => isWatched b.ctx.state && r.level.isNone
  | .levelHigh => isWatched b.ctx.state && r.level.any fun l => b.force.lhigh ≤ l
  | .breakoutSuspect => decide (b.ctx.mode = .closed) && r.level.any fun l => suddenFall prior b.force.drop l
  | .levelLow => isMoving b.ctx.state && r.level.any fun l => l < b.force.llow
  | .driveLag => lagFound r b
  | _ => false

/-- The check of a kind (R149); that of DRIVE_LAG after its count. -/
def checkOf (n : Strand) (r : Reading) (prior : List Nat) (k : Kind) : State → Period :=
  match k with
  | .breakout => checkBreakout n r
  | .interlockLost => checkInterlock n r
  | .gaugeFault => checkGauge n r
  | .levelHigh => checkLevelHigh n r
  | .breakoutSuspect => checkSuspect n r prior
  | .levelLow => checkLevelLow n r
  | .driveLag => fun s => checkCond n .driveLag (found (lagFound r s.strands[n])) s
  | _ => quiet id

/-- The kinds of the first six checks, in their order (R149). -/
def firstSix : List Kind := [.breakout, .interlockLost, .gaugeFault, .levelHigh, .breakoutSuspect, .levelLow]

theorem condKind_firstSix (c : Cond) : condKind c ∈ firstSix ∨ c = .driveLag := by cases c <;> decide

/-- A kind of stage 2 is BREAKOUT_SUSPECT or that of a condition (R153). -/
theorem kind_cases (h : k ∈ firstSix ∨ k = .driveLag) : k = .breakoutSuspect ∨ ∃ c, k = condKind c := by
  obtain h | rfl := h
  · fin_cases h
    exacts [.inr ⟨.breakout, rfl⟩, .inr ⟨.interlockLost, rfl⟩, .inr ⟨.gaugeFault, rfl⟩, .inr ⟨.levelHigh, rfl⟩, .inl rfl,
      .inr ⟨.levelLow, rfl⟩]
  · exact .inr ⟨.driveLag, rfl⟩

theorem checkOf_condKind (hl : r.level = some l) (c : Cond) : checkOf n r prior (condKind c) (withPart n b a al s)
    = checkCond n c (found (hit r prior (condKind c) b)) (withPart n b a al s) := by
  cases c with
  | breakout => exact congrArg (fun c : Ctx => checkCond n .breakout (found (isWatched c.state && _)) _) ctxOf_withPart
  | interlockLost =>
    exact congrArg (fun c : Ctx => checkCond n .interlockLost (found (isInterlocked c.state && _)) _) ctxOf_withPart
  | gaugeFault =>
    exact congrArg (fun c : Ctx => checkCond n .gaugeFault (found (isWatched c.state && _)) _) ctxOf_withPart
  | levelHigh =>
    show checkLevelHigh n r _ = _
    rw [checkLevelHigh, ctxOf_withPart, withPart_block, hl, levelFinding_some, condKind, hit, hl]
    rfl
  | levelLow =>
    show checkLevelLow n r _ = _
    rw [checkLevelLow, ctxOf_withPart, withPart_block, hl, levelFinding_some, condKind, hit, hl]
    rfl
  | driveLag => exact congrArg (fun d => checkCond n .driveLag (found (lagFound r d)) _) withPart_block

theorem checkOf_suspect (hl : r.level = some l) : checkOf n r prior .breakoutSuspect (withPart n b a al s)
    = if hit r prior .breakoutSuspect b = true then deviate n .breakoutSuspect (withPart n b a al s)
      else { st := withPart n b a al s, cut := false } := by
  show checkSuspect n r prior _ = _
  rw [checkSuspect, hl, ctxOf_withPart, withPart_block, hit, hl]
  rfl

/-- A kind that its check does not find leaves the active-condition set. -/
theorem checkOf_missed (hl : r.level = some l) (hk : k ∈ firstSix ∨ k = .driveLag) (h : hit r prior k b = false) :
    checkOf n r prior k (withPart n b a al s) = { st := withPart n (dropped [k] b) a al s, cut := false } := by
  obtain rfl | ⟨c, rfl⟩ := kind_cases hk
  · rw [checkOf_suspect hl, if_neg (by rw [h]; decide)]
    rfl
  · rw [checkOf_condKind hl, found_eq_absent h, checkCond_absent]
    exact congrArg (fun A => Period.mk (withPart n { b with active := A } a al s) false) (setKind_condKind c _ _).symm

/-! ## A kind found -/

/-- The block once a kind has been recorded at its onset. -/
def foundBlock (s : State) (seen : Nat × Option Nat) (k : Kind) (b : Block) : Block :=
  { recordIn s.cfg s.store.time seen k b with active := setKind k true b.active }

theorem checkOf_onset (hl : r.level = some l) (hk : k ∈ firstSix ∨ k = .driveLag) (h : hit r prior k b = true)
    (hs : b.sampled = some seen) (ho : atOnset k b) : checkOf n r prior k (withPart n b a al s)
      = { st := applyAction n (actionOf s.cfg k) (withPart n (foundBlock s seen k b) a (al || alarmOf s.cfg k) s)
          cut := decide (actionOf s.cfg k = .trip) } := by
  obtain rfl | ⟨c, rfl⟩ := kind_cases hk
  · rw [checkOf_suspect hl, if_pos h, deviate, raise_withPart (observed_withPart hs)]
    rfl
  · rw [checkOf_condKind hl, h, show found true = .present from rfl, checkCond_onset hs (ho c rfl), foundBlock,
      setKind_condKind]
    rfl

theorem checkOf_standing (hl : r.level = some l) (hk : k ∈ firstSix ∨ k = .driveLag) (h : hit r prior k b = true)
    (ho : ¬ atOnset k b) :
    checkOf n r prior k (withPart n b a al s) = { st := withPart n b a al s, cut := false } := by
  obtain rfl | ⟨c, rfl⟩ := kind_cases hk
  · exact absurd (fun c hc => by cases c <;> cases hc) ho
  · rw [checkOf_condKind hl, h, show found true = .present from rfl, checkCond_standing (active_of_standing ho rfl)]

/-- What a kind found leaves of the part `b`, `a`, `al` where the period goes on: a condition that lasts nothing, and a
kind at its onset its record, and the strand held or where it was (R148, R153). -/
inductive Verdict (s : State) (n : Strand) (seen : Nat × Option Nat) (k : Kind) (b : Block) (a : Arbiter) (al : Bool) :
    Block → Arbiter → Bool → Prop
  | lasts (h : ¬ atOnset k b) : Verdict s n seen k b a al b a al
  | held (h : atOnset k b) (ha : actionOf s.cfg k = .hold) (g : HoldReturn) (hg : holdState g = b.ctx.state) :
      Verdict s n seen k b a al
        { foundBlock s seen k b with ctx := { b.ctx with state := .held, holdReturn := some g, lag := 0 } }
        (if g = .waitPermit then { a with queue := a.queue.filter (·.strand != n) } else a) (al || alarmOf s.cfg k)
  | recorded (h : atOnset k b) (ha : leaves (actionOf s.cfg k) b.ctx) :
      Verdict s n seen k b a al (foundBlock s seen k b) a (al || alarmOf s.cfg k)

/-- The check of a kind it finds: a trip ends the period, and else it goes on. -/
theorem checkOf_hit (hl : r.level = some l) (hk : k ∈ firstSix ∨ k = .driveLag) (h : hit r prior k b = true)
    (hs : b.sampled = some seen) (hw : isWatched b.ctx.state = true) :
    (atOnset k b ∧ actionOf s.cfg k = .trip ∧ checkOf n r prior k (withPart n b a al s)
      = { st := withPart n (trippedBlock (foundBlock s seen k b)) (arbAfter n b.ctx .tripped a) (al || alarmOf s.cfg k) s
          cut := true })
    ∨ ∃ u a' al', Verdict s n seen k b a al u a' al'
      ∧ checkOf n r prior k (withPart n b a al s) = { st := withPart n u a' al' s, cut := false } := by
  obtain ⟨hi, ht⟩ := isWatched_iff.1 hw
  by_cases ho : atOnset k b
  · have honset := checkOf_onset (n := n) (a := a) (al := al) (s := s) hl hk h hs ho
    cases hact : actionOf s.cfg k with
    | note =>
      rw [hact] at honset
      exact .inr ⟨_, _, _, .recorded ho (.inl hact), honset⟩
    | stop => exact absurd hact (actionOf_ne_stop (by
        obtain rfl | ⟨c, rfl⟩ := kind_cases hk
        · decide
        · exact condKind_ne_changeOverrun c))
    | trip =>
      rw [hact] at honset
      exact .inl ⟨ho, rfl, honset.trans (congrArg (Period.mk · true) (applyAction_trip_part hi ht))⟩
    | hold =>
      rw [hact] at honset
      by_cases hg : ∃ g, holdState g = b.ctx.state
      · obtain ⟨g, hg⟩ := hg
        exact .inr ⟨_, _, _, .held ho hact g hg, honset.trans (congrArg (Period.mk · false)
          (holdStrand_withPart (b := foundBlock s seen k b) hg))⟩
      · have hstill : ∀ g, holdState g ≠ b.ctx.state := fun g e => hg ⟨g, e⟩
        exact .inr ⟨_, _, _, .recorded ho (.inr ⟨hact, hstill⟩), honset.trans (congrArg (Period.mk · false)
          (applyAction_hold_still (b := foundBlock s seen k b) hstill))⟩
  · exact .inr ⟨_, _, _, .lasts ho, checkOf_standing hl hk h ho⟩

/-! ## What a later check can still find -/

/-- `u` is `b` as an earlier check may leave it: as it was, or held. -/
structure Kin (b u : Block) : Prop where
  force    : u.force = b.force
  outSpeed : u.outSpeed = b.outSpeed
  mode     : u.ctx.mode = b.ctx.mode
  state    : (u.ctx.state = b.ctx.state ∧ u.ctx.lag = b.ctx.lag)
    ∨ (u.ctx.state = .held ∧ ∃ g, holdState g = b.ctx.state)

theorem Verdict.kin (h : Verdict s n seen k b a al u a' al') : Kin b u := by
  cases h with
  | lasts | recorded => exact ⟨rfl, rfl, rfl, .inl ⟨rfl, rfl⟩⟩
  | held _ _ g hg => exact ⟨rfl, rfl, rfl, .inr ⟨rfl, g, hg⟩⟩

/-- The kind found is in the active-condition set, and the others are in it as they were. -/
theorem Verdict.active (h : Verdict s n seen k b a al u a' al') (c : Cond) :
    isActive u.active c = if condKind c = k then true else isActive b.active c := by
  cases h with
  | lasts ho =>
    split
    · rename_i hc
      exact active_of_standing ho hc
    · rfl
  | held | recorded => exact isActive_setKind k true b.active c

theorem Kin.watched (h : Kin b u) (hu : isWatched u.ctx.state = true) : isWatched b.ctx.state = true := by
  obtain ⟨hs, -⟩ | ⟨-, g, hg⟩ := h.state
  · rwa [← hs]
  · rw [← hg]
    cases g <;> rfl

theorem Kin.interlocked (h : Kin b u) (hu : isInterlocked u.ctx.state = true) : isInterlocked b.ctx.state = true := by
  obtain ⟨hs, -⟩ | ⟨-, g, hg⟩ := h.state
  · rwa [← hs]
  · rw [← hg]
    cases g <;> rfl

theorem Kin.moving (h : Kin b u) (hu : isMoving u.ctx.state = true) :
    u.ctx.state = b.ctx.state ∧ u.ctx.lag = b.ctx.lag := by
  obtain hs | ⟨hs, -⟩ := h.state
  · exact hs
  · rw [hs] at hu
    cases hu

/-- What a check finds at `u` it would have found at `b`. -/
theorem Kin.hit (h : Kin b u) (hk : k ∈ firstSix) (hu : hit r prior k u = true) : hit r prior k b = true := by
  fin_cases hk
  all_goals
    simp only [Machine.hit, Bool.and_eq_true] at hu ⊢
  · exact ⟨h.watched hu.1, hu.2⟩
  · exact ⟨h.interlocked hu.1, hu.2⟩
  · exact ⟨h.watched hu.1, hu.2⟩
  · exact ⟨h.watched hu.1, h.force ▸ hu.2⟩
  · exact ⟨h.mode ▸ hu.1, h.force ▸ hu.2⟩
  · exact ⟨(h.moving hu.1).1 ▸ hu.1, h.force ▸ hu.2⟩

theorem lagsAt_moving (h : lagsAt r b = true) : isMoving b.ctx.state = true := ((Bool.and_eq_true _ _).mp h).1

theorem Kin.lag (h : Kin b u) (hu : lagFound r (counted r u) = true) : lagFound r (counted r b) = true := by
  have hm : isMoving u.ctx.state = true := lagsAt_moving (b := counted r u) ((Bool.and_eq_true _ _).mp hu).1
  obtain ⟨hs, hl⟩ := h.moving hm
  have hlags : lagsAt r u = lagsAt r b := by rw [lagsAt, lagsAt, hs, h.force, h.outSpeed]
  have hlags' : lagsAt r (counted r u) = lagsAt r (counted r b) := hlags
  have hforce : (counted r u).force = (counted r b).force := h.force
  have hcount : (counted r u).ctx.lag = (counted r b).ctx.lag := by
    show (if lagsAt r u then lagUp (u.force.lagt * 2) u.ctx.lag else 0) = _
    rw [hlags, h.force, hl]
    rfl
  rw [lagFound, hlags', hforce, hcount] at hu
  exact hu

theorem hit_dropped {ks : List Kind} : hit r prior k (dropped ks b) = hit r prior k b := by cases k <;> rfl

/-! ## The checks in a row -/

/-- Checks taken one after another, unless the period has been cut short (R9). -/
def runFrom (fs : List (State → Period)) (p : Period) : Period := fs.foldl (fun p f => unlessCut f p) p

theorem checks_eq : checks n r prior s
    = unlessCut (checkLag n r) (runFrom (firstSix.map (checkOf n r prior)) { st := s, cut := false }) := rfl

theorem runFrom_cut (fs : List (State → Period)) (h : p.cut = true) : runFrom fs p = p := by
  induction fs with
  | nil => rfl
  | cons f fs ih =>
    refine (congrArg (runFrom fs) (?_ : unlessCut f p = p)).trans ih
    exact if_pos h

/-- Checks that find nothing take their kinds out of the active-condition set. -/
theorem runFrom_missed {ks : List Kind} (hl : r.level = some l) (hks : ks ⊆ firstSix)
    (h : ∀ k ∈ ks, hit r prior k b = false) :
    runFrom (ks.map (checkOf n r prior)) { st := withPart n b a al s, cut := false }
      = { st := withPart n (dropped ks b) a al s, cut := false } := by
  induction ks generalizing b with
  | nil => rfl
  | cons k ks ih =>
    have hfirst : checkOf n r prior k (withPart n b a al s) = _ :=
      checkOf_missed hl (.inl (hks List.mem_cons_self)) (h k List.mem_cons_self)
    refine (congrArg (runFrom (ks.map (checkOf n r prior))) ((unlessCut_going _ _).trans hfirst)).trans ?_
    exact ih (b := dropped [k] b) (fun k' hk' => hks (List.mem_cons_of_mem _ hk'))
      fun k' hk' => hit_dropped.trans (h k' (List.mem_cons_of_mem _ hk'))

/-- What the checks after a kind found leave: the lag counted, and the kind found alone in the active-condition set. -/
structure Settled (k : Kind) (u u' : Block) : Prop where
  ctx    : ∃ x, u'.ctx = { u.ctx with lag := x } ∧ (u.ctx.state = .held → u.ctx.lag = 0 → x = 0)
  log    : u'.log = u.log
  active : ∀ c, isActive u'.active c = decide (condKind c = k)

/-- Stage 2 where it finds kind `k` alone, from the block `b'` its check meets. -/
structure Alone (s : State) (n : Strand) (seen : Nat × Option Nat) (k : Kind) (b : Block) (a : Arbiter) (al : Bool)
    (b' : Block) (p : Period) : Prop where
  ctx   : ∃ x, b'.ctx = { b.ctx with lag := x }
  log   : b'.log = b.log
  onset : atOnset k b' ↔ atOnset k b
  ends  : (atOnset k b' ∧ actionOf s.cfg k = .trip ∧ p
      = { st := withPart n (trippedBlock (foundBlock s seen k b')) (arbAfter n b'.ctx .tripped a)
            (al || alarmOf s.cfg k) s
          cut := true })
    ∨ ∃ u a' al' u', Verdict s n seen k b' a al u a' al' ∧ Settled k u u'
      ∧ p = { st := withPart n u' a' al' s, cut := false }

theorem atOnset_dropped {ks : List Kind} (h : k ∉ ks) : atOnset k (dropped ks b) ↔ atOnset k b := by
  refine forall₂_congr fun c hc => ?_
  rw [isActive_dropped, if_neg (hc ▸ h)]

/-- Stage 2 from the check of `k` on, where the checks before it find nothing. -/
theorem checks_from {before after : List Kind} (hl : r.level = some l) (hsplit : firstSix = before ++ k :: after)
    (h : ∀ k' ∈ before, hit r prior k' b = false) : checks n r prior (withPart n b a al s) = unlessCut (checkLag n r)
      (runFrom (after.map (checkOf n r prior)) (checkOf n r prior k (withPart n (dropped before b) a al s))) := by
  have hsub : before ⊆ firstSix := by
    rw [hsplit]
    exact List.subset_append_left _ _
  have hmissed := runFrom_missed (n := n) (a := a) (al := al) (s := s) (prior := prior) hl hsub h
  rw [checks_eq, hsplit, List.map_append, List.map_cons]
  show unlessCut _ (List.foldl _ _ _) = _
  rw [List.foldl_append]
  exact congrArg (fun q => unlessCut (checkLag n r) (runFrom (after.map (checkOf n r prior))
    (unlessCut (checkOf n r prior k) q))) hmissed

/-- Where `k` is put into the active-condition set, and the other kinds of stage 2 are taken out, it is there alone. -/
theorem isActive_alone {before after : List Kind} (hsplit : firstSix = before ++ k :: after) (hafter : k ∉ after)
    (hu : ∀ c, isActive u.active c = if condKind c = k then true else isActive (dropped before b).active c) (c : Cond) :
    isActive (without .driveLag (dropped after u)).active c = decide (condKind c = k) := by
  have hc : isActive (without .driveLag (dropped after u)).active c
      = if c = .driveLag then false else isActive (dropped after u).active c := isActive_setActive _ _ _ _
  have hk : k ∈ firstSix := by
    rw [hsplit]
    exact List.mem_append_right _ List.mem_cons_self
  rw [hc, isActive_dropped, hu, isActive_dropped]
  by_cases hck : condKind c = k
  · have hne : c ≠ .driveLag := by
      rintro rfl
      rw [← hck] at hk
      exact absurd hk (by decide)
    rw [if_neg hne, if_neg (hck ▸ hafter), if_pos hck, decide_eq_true hck]
  · rw [if_neg hck, decide_eq_false hck]
    obtain hmem | rfl := condKind_firstSix c
    · rw [hsplit, List.mem_append, List.mem_cons] at hmem
      obtain h | h | h := hmem
      · simp [h]
      · exact absurd h hck
      · simp [h]
    · rfl

/-- Stage 2 where one of the first six checks finds its kind, and no other check does. -/
theorem checks_alone_six (hl : r.level = some l) (hs : b.sampled = some seen) (hw : isWatched b.ctx.state = true)
    (hk : k ∈ firstSix) (hsix : ∀ k' ∈ firstSix, hit r prior k' b = true ↔ k' = k)
    (hlag : lagFound r (counted r b) = false) :
    ∃ b', Alone s n seen k b a al b' (checks n r prior (withPart n b a al s)) := by
  obtain ⟨before, after, hsplit⟩ := List.append_of_mem hk
  have hnodup : (before ++ k :: after).Nodup := hsplit ▸ (by decide : firstSix.Nodup)
  obtain ⟨-, hrest, hdisjoint⟩ := List.nodup_append.1 hnodup
  have hbefore : k ∉ before := fun h => hdisjoint k h k List.mem_cons_self rfl
  have hafter : k ∉ after := (List.nodup_cons.1 hrest).1
  have hsub : before ⊆ firstSix ∧ after ⊆ firstSix := by
    rw [hsplit]
    exact ⟨List.subset_append_left _ _, fun _ h => List.mem_append_right _ (List.mem_cons_of_mem _ h)⟩
  have hrun := checks_from (n := n) (a := a) (al := al) (s := s) (b := b) (prior := prior) hl hsplit fun k' hk' =>
    Bool.eq_false_iff.2 fun h => hbefore ((hsix k' (hsub.1 hk')).1 h ▸ hk')
  refine ⟨dropped before b, ⟨b.ctx.lag, rfl⟩, rfl, atOnset_dropped hbefore, ?_⟩
  obtain ⟨ho, hact, hq⟩ | ⟨u, a', al', hu, hq⟩ := checkOf_hit (n := n) (a := a) (al := al) (s := s) (seen := seen) hl
    (.inl hk) (hit_dropped.trans ((hsix k hk).2 rfl)) hs hw
  · refine .inl ⟨ho, hact, ?_⟩
    rw [hrun, hq, runFrom_cut _ rfl]
    rfl
  · have hkin : Kin b u := ⟨hu.kin.force, hu.kin.outSpeed, hu.kin.mode, hu.kin.state⟩
    have hlag' : lagFound r (counted r (dropped after u)) = false :=
      Bool.eq_false_iff.2 fun h => by rw [hkin.lag (u := u) h] at hlag; cases hlag
    have hsettled : Settled k u (without .driveLag (counted r (dropped after u))) := by
      refine ⟨⟨_, rfl, fun hheld _ => if_neg ?_⟩, rfl, isActive_alone hsplit hafter hu.active⟩
      rw [lagsAt, show (dropped after u).ctx.state = .held from hheld]
      exact nofun
    refine .inr ⟨u, a', al', _, hu, hsettled, ?_⟩
    rw [hrun, hq, runFrom_missed hl hsub.2, unlessCut_going, checkLag_withPart, hlag', found_eq_absent rfl,
      checkCond_absent]
    exact fun k' hk' => Bool.eq_false_iff.2 fun h =>
      hafter ((hsix k' (hsub.2 hk')).1 (hkin.hit (hsub.2 hk') h) ▸ hk')

/-- Stage 2 where the check of DRIVE_LAG alone finds its kind. -/
theorem checks_alone_lag (hl : r.level = some l) (hs : b.sampled = some seen) (hw : isWatched b.ctx.state = true)
    (hsix : ∀ k' ∈ firstSix, hit r prior k' b = false) (hlag : lagFound r (counted r b) = true) :
    ∃ b', Alone s n seen .driveLag b a al b' (checks n r prior (withPart n b a al s)) := by
  have hrun : checks n r prior (withPart n b a al s)
      = checkOf n r prior .driveLag (withPart n (counted r (dropped firstSix b)) a al s) := by
    rw [checks_eq, runFrom_missed hl (List.Subset.refl _) hsix, unlessCut_going, checkLag_withPart]
    exact (congrArg (fun d => checkCond n .driveLag (found (lagFound r d)) _) withPart_block).symm
  refine ⟨counted r (dropped firstSix b), ⟨_, rfl⟩, rfl, atOnset_dropped (by decide), ?_⟩
  obtain ⟨ho, hact, hq⟩ | ⟨u, a', al', hu, hq⟩ := checkOf_hit (n := n) (a := a) (al := al) (s := s) (seen := seen)
    (k := .driveLag) (prior := prior) (b := counted r (dropped firstSix b)) hl (.inr rfl) hlag hs hw
  · exact .inl ⟨ho, hact, hrun.trans hq⟩
  · refine .inr ⟨u, a', al', u, hu, ⟨⟨_, rfl, fun _ h => h⟩, rfl, fun c => ?_⟩, hrun.trans hq⟩
    rw [hu.active, show (counted r (dropped firstSix b)).active = (dropped firstSix b).active from rfl, isActive_dropped]
    by_cases hc : condKind c = .driveLag
    · rw [if_pos hc, decide_eq_true hc]
    · have hmem : condKind c ∈ firstSix := (condKind_firstSix c).resolve_right fun e => hc (congrArg condKind e)
      rw [if_neg hc, if_pos hmem, decide_eq_false hc]

end Checks

end Sys2Proof.Machine
end

section
/-! PROOF. The five conditions of O24: what each finds in the words of the rules, its record and its action, and the rest of
the period (R91 to R93, R148, R151 to R153). -/

namespace Sys2Proof.Machine

open Sys2Proof

section Found

variable {n : Strand} {b : Block} {a : Arbiter} {al : Bool} {s t : State} {x : Sample} {l : Nat} {k : Kind}
  {seen : Nat × Option Nat}

/-! ## What the checks find -/

/-- The part as stage 2 meets it in a period of `s` on sample `x`. -/
abbrev metBlock (s : State) (n : Strand) (x : Sample) : Block :=
  openedBlock s.cfg.strands[n] (readSample x) s.strands[n]

theorem metBlock_state (s : State) (n : Strand) (x : Sample) : (metBlock s n x).ctx.state = (ctxOf s n).state :=
  openedBlock_state _ _ _

theorem hit_interlock {prior : List Nat} :
    hit (readSample x) prior .interlockLost (metBlock s n x) = true ↔ findsInterlock s n x := by
  rw [hit, Bool.and_eq_true, metBlock_state, isInterlocked_iff, Bool.not_eq_true']
  exact and_comm

theorem hit_high {prior : List Nat} (hv : validSample x l) :
    hit (readSample x) prior .levelHigh (metBlock s n x) = true ↔ findsHigh s n l := by
  rw [hit, Bool.and_eq_true, metBlock_state, isWatched_iff, readSample_valid hv, Option.any_some, decide_eq_true_eq]
  exact and_comm

theorem hit_suspect (hv : validSample x l) :
    hit (readSample x) (suspectHistory s.strands[n]) .breakoutSuspect (metBlock s n x) = true ↔ findsSuspect s n l := by
  rw [hit, Bool.and_eq_true, decide_eq_true_eq, openedBlock_mode (readSample_valid hv), readSample_valid hv,
    Option.any_some, suddenFall_suspectHistory]
  rfl

theorem hit_low {prior : List Nat} (hv : validSample x l) :
    hit (readSample x) prior .levelLow (metBlock s n x) = true ↔ findsLow s n l := by
  rw [hit, Bool.and_eq_true, metBlock_state, isMoving_iff, readSample_valid hv, Option.any_some, decide_eq_true_eq]
  rfl

/-- The opening of a period leaves the lag count (R152). -/
theorem metBlock_lag (s : State) (n : Strand) (x : Sample) : (metBlock s n x).ctx.lag = (ctxOf s n).lag := by
  obtain ⟨h, e, m, lt, hc⟩ := openedBlock_ctx s.cfg.strands[n] (readSample x) s.strands[n]
  rw [hc]
  rfl

theorem speedGap_above {u v tol : Nat} : tol < speedGap u v ↔ tol < u - v ∨ tol < v - u := by
  unfold speedGap
  omega

theorem lagsAt_iff : lagsAt (readSample x) (metBlock s n x) = true ↔ lags s n x := by
  rw [lagsAt, Bool.and_eq_true, metBlock_state, isMoving_iff, decide_eq_true_eq, speedGap_above]
  rfl

theorem lagUp_reaches {limit lag : Nat} : limit ≤ lagUp limit lag ↔ limit ≤ lag + 1 := by
  unfold lagUp
  split <;> omega

theorem lagFound_iff : lagFound (readSample x) (counted (readSample x) (metBlock s n x)) = true ↔ findsLag s n x := by
  have hlags : lagsAt (readSample x) (counted (readSample x) (metBlock s n x))
      = lagsAt (readSample x) (metBlock s n x) := rfl
  rw [lagFound, hlags, Bool.and_eq_true, lagsAt_iff, decide_eq_true_eq]
  refine and_congr_right fun h => ?_
  have hcount : (counted (readSample x) (metBlock s n x)).ctx.lag
      = lagUp (s.cfg.strands[n].lagt * 2) (ctxOf s n).lag := by
    rw [← metBlock_lag s n x]
    exact if_pos (lagsAt_iff.2 h)
  rw [hcount]
  exact lagUp_reaches

/-- A sample on which kind `k` alone of the five is found. -/
structure FindsOnly (s : State) (n : Strand) (x : Sample) (l : Nat) (k : Kind) : Prop where
  valid     : validSample x l
  mem       : k ∈ [Kind.interlockLost, .levelHigh, .breakoutSuspect, .levelLow, .driveLag]
  interlock : findsInterlock s n x ↔ k = .interlockLost
  high      : findsHigh s n l ↔ k = .levelHigh
  suspect   : findsSuspect s n l ↔ k = .breakoutSuspect
  low       : findsLow s n l ↔ k = .levelLow
  lag       : findsLag s n x ↔ k = .driveLag
  idle      : (ctxOf s n).state ≠ .idle
  tripped   : (ctxOf s n).state ≠ .tripped

theorem FindsOnly.hit_iff (h : FindsOnly s n x l k) : ∀ k' ∈ firstSix,
    hit (readSample x) (suspectHistory s.strands[n]) k' (metBlock s n x) = true ↔ k' = k := by
  have hk := h.mem
  intro k' hk'
  fin_cases hk'
  · have hb : (readSample x).breakout = false := h.valid.1
    refine iff_of_false (by simp [hit, hb]) ?_
    rintro rfl
    exact absurd hk (by decide)
  · exact (hit_interlock.trans h.interlock).trans eq_comm
  · refine iff_of_false (by simp [hit, readSample_valid h.valid]) ?_
    rintro rfl
    exact absurd hk (by decide)
  · exact ((hit_high h.valid).trans h.high).trans eq_comm
  · exact ((hit_suspect h.valid).trans h.suspect).trans eq_comm
  · exact ((hit_low h.valid).trans h.low).trans eq_comm

/-- Stage 2 of a period on such a sample. -/
theorem FindsOnly.alone (h : FindsOnly s n x l k) : ∃ b', Alone s n (min x.measured 8000, validLevel x) k (metBlock s n x)
    s.arb s.alarm b' (checks n (readSample x) (suspectHistory s.strands[n])
      (withPart n (metBlock s n x) s.arb s.alarm s)) := by
  have hl := readSample_valid h.valid
  have hw : isWatched (metBlock s n x).ctx.state = true := by
    rw [metBlock_state]
    exact isWatched_iff.2 ⟨h.idle, h.tripped⟩
  by_cases hk : k = .driveLag
  · subst hk
    refine checks_alone_lag hl rfl hw (fun k' hk' => Bool.eq_false_iff.2 fun hh => ?_) (lagFound_iff.2 (h.lag.2 rfl))
    rw [(h.hit_iff k' hk').1 hh] at hk'
    exact absurd hk' (by decide)
  · have hfive : [Kind.interlockLost, .levelHigh, .breakoutSuspect, .levelLow, .driveLag] ⊆ .driveLag :: firstSix := by
      decide
    have hsix : k ∈ firstSix := (List.mem_cons.1 (hfive h.mem)).resolve_left hk
    exact checks_alone_six hl rfl hw hsix h.hit_iff (Bool.eq_false_iff.2 fun hf => hk (h.lag.1 (lagFound_iff.1 hf)))

/-! ## The rest of the period -/

/-- The kinds of stages 3 and 4 (R14, R16, R63 to R66). -/
abbrev stageKinds : List Kind := [.fillTimeout, .permitWait, .speedLimit, .rateClamp, .rampShort]

theorem laterKinds_stageKinds (st : StrandState) : laterKinds st ⊆ stageKinds := by cases st <;> decide

theorem FindsOnly.ne_later (h : FindsOnly s n x l k) {st : StrandState} {k' : Kind} (hk' : k' ∈ laterKinds st) : k' ≠ k := by
  rintro rfl
  have hm := h.mem
  have hm' := laterKinds_stageKinds st hk'
  fin_cases hm <;> exact absurd hm' (by decide)

/-- With its kinds steered to NOTE the rest of a period neither trips a strand nor holds it (R148). -/
theorem Deviates.noted {ks : List Kind} (h : Deviates n ks s t) (hks : ∀ k ∈ ks, actionOf s.cfg k = .note)
    (ht : (ctxOf s n).state ≠ .tripped) :
    (ctxOf t n).state ≠ .tripped ∧ ((ctxOf t n).state = .held ↔ (ctxOf s n).state = .held) := by
  obtain ⟨rs, hr, hk⟩ := h
  have hnone {act : Action} (hne : act ≠ .note) : act ∉ rs.map fun q => actionOf s.cfg q.kind := by
    intro hm
    obtain ⟨q, hq, e⟩ := List.mem_map.1 hm
    exact hne (e.symm.trans (hks q.kind (hk q hq)))
  have htripped : (ctxOf t n).state ≠ .tripped := fun h => (hr.ctx.trips h).elim ht (hnone (by decide))
  refine ⟨htripped, fun h => (hr.ctx.holds h).resolve_right (hnone (by decide)), fun h => ?_⟩
  exact ((hr.ctx.rests (.inl h)).resolve_right htripped).trans h

/-- The states in which the rest of a period records nothing and leaves the strand where it is. -/
abbrev quietAfter (st : StrandState) : Prop := st = .held ∨ st = .frozen ∨ st = .change

theorem Deviates.quiet (h : Deviates n (laterKinds (ctxOf s n).state) s t) (hq : quietAfter (ctxOf s n).state) :
    (ctxOf t n).state = (ctxOf s n).state ∧ t.strands[n].log = s.strands[n].log := by
  have hnil : laterKinds (ctxOf s n).state = [] := by obtain h | h | h := hq <;> rw [h] <;> rfl
  have ht : (ctxOf s n).state ≠ .tripped := by obtain h | h | h := hq <;> rw [h] <;> decide
  rw [hnil] at h
  obtain ⟨hnot, -⟩ := h.noted (fun _ hk => absurd hk List.not_mem_nil) ht
  have hent := h.entered
  refine ⟨(hent.ctx.rests ?_).resolve_right hnot, hent.log⟩
  obtain h | h | h := hq
  · exact .inl h
  · exact .inr (.inl h)
  · exact .inr (.inr (.inl h))

/-- The rest of a period after stage 2 has found kind `k` alone and has left the strand in state `st`, its log `g`. -/
structure Rest (s : State) (n : Strand) (k : Kind) (st : StrandState) (g : Log StrandRec) (al : Bool) (t : State) : Prop where
  first  : g.first ≠ none → t.strands[n].log.first = g.first
  keeps  : keepsEntries g t.strands[n].log
  adds   : addsNone k g t.strands[n].log
  alarm  : al = true → t.alarm = true
  quiet  : quietAfter st → (ctxOf t n).state = st ∧ t.strands[n].log = g
  noted  : (∀ j ∈ stageKinds, actionOf s.cfg j = .note) →
    (ctxOf t n).state ≠ .tripped ∧ ((ctxOf t n).state = .held ↔ st = .held)
  active : ∀ c, isActive t.strands[n].active c = decide (condKind c = k)

theorem FindsOnly.rest (h : FindsOnly s n x l k) (ht : b.ctx.state ≠ .tripped)
    (ha : ∀ c, isActive b.active c = decide (condKind c = k)) : Rest s n k b.ctx.state b.log al
      (laterStages n (readSample x) (timedStage n (readSample x) (withPart n b a al s))) := by
  have hd := later_deviates n (readSample x) (withPart n b a al s)
  generalize laterStages n (readSample x) (timedStage n (readSample x) (withPart n b a al s)) = t at hd
  have hquiet := hd.quiet
  have hnoted (hj : ∀ j ∈ stageKinds, actionOf s.cfg j = .note) := hd.noted fun k hk => hj k (laterKinds_stageKinds _ hk)
  obtain ⟨rs, hr, hk⟩ := hd
  have hlog := hr.log
  rw [withPart_block] at hlog hquiet
  rw [ctxOf_withPart] at hquiet hnoted hk
  refine ⟨fun hf => ?_, ?_, ?_, fun hal => ?_, hquiet, fun hj => hnoted hj ht, fun c => ?_⟩
  · rw [hlog]
    exact enterAll_first hf
  · rw [hlog]
    exact enterAll_keeps
  · rw [hlog]
    exact enterAll_addsNone fun q hq => h.ne_later (hk q hq)
  · rw [hr.alarm, withPart_alarm, hal, Bool.true_or]
  · refine (hr.active c fun q hq e => ?_).trans ?_
    · have hm := laterKinds_stageKinds _ (hk q hq)
      rw [e] at hm
      cases c <;> exact absurd hm (by decide)
    · rw [withPart_block, ha]

/-! ## The record of the kind found -/

theorem Alone.record {b' : Block} {p : Period} (h : Alone s n seen k (metBlock s n x) a al b' p) (j : Kind) :
    blockRecord s.cfg s.store.time (min x.measured 8000, validLevel x) b' j = periodRecord s n x j := by
  obtain ⟨y, hc⟩ := h.ctx
  obtain ⟨_, _, _, _, hm⟩ := openedBlock_ctx s.cfg.strands[n] (readSample x) s.strands[n]
  rw [blockRecord, hc]
  dsimp only
  rw [hm]
  rfl

theorem Alone.entered {b' : Block} {p : Period}
    (h : Alone s n (min x.measured 8000, validLevel x) k (metBlock s n x) a al b' p) :
    (foundBlock s (min x.measured 8000, validLevel x) k b').log
      = logRecord s.strands[n].log (periodRecord s n x k) k (alarmOf s.cfg k) := by
  rw [← h.record k]
  show logRecord b'.log _ k _ = _
  rw [h.log]
  rfl

end Found

end Sys2Proof.Machine
end

section
/-! PROOF. The clauses of O24: the record and action of a condition found alone, the lag count, and the count of the refill. -/

namespace Sys2Proof.Machine

open Sys2Proof

section Acts

variable {n : Strand} {b : Block} {a : Arbiter} {al : Bool} {s t : State} {x : Sample} {l : Nat} {k : Kind}

/-! ## A condition found alone -/

/-- The strand's log with the record of kind `k` that a period on sample `x` makes. -/
abbrev enteredLog (s : State) (n : Strand) (x : Sample) (k : Kind) : Log StrandRec :=
  logRecord s.strands[n].log (periodRecord s n x k) k (alarmOf s.cfg k)

/-- Strand `n` held from `g` in the period to `t`, its wait, slot and permit standing (R21, R148). -/
structure HeldIn (s : State) (n : Strand) (g : HoldReturn) (t : State) : Prop where
  state      : (ctxOf t n).state = .held
  holdReturn : (ctxOf t n).holdReturn = some g
  lag        : (ctxOf t n).lag = 0
  timer      : (ctxOf t n).timer = (ctxOf s n).timer
  slot       : (ctxOf t n).slot = (ctxOf s n).slot
  permit     : (ctxOf t n).permit = (ctxOf s n).permit

/-- How a period ends on which kind `k` alone is found. -/
inductive FoundEnd (s : State) (n : Strand) (x : Sample) (k : Kind) (t : State) : Prop
  | tripped (ho : atOnset k s.strands[n]) (ha : actionOf s.cfg k = .trip) (hs : (ctxOf t n).state = .tripped)
      (hout : t.strands[n].outTrip = true) (hlog : t.strands[n].log = enteredLog s n x k)
      (hal : t.alarm = (s.alarm || alarmOf s.cfg k))
  | held (ho : atOnset k s.strands[n]) (ha : actionOf s.cfg k = .hold) (g : HoldReturn)
      (hg : holdState g = (ctxOf s n).state) (hheld : HeldIn s n g t)
      (hrest : Rest s n k .held (enteredLog s n x k) (s.alarm || alarmOf s.cfg k) t)
  | recorded (ho : atOnset k s.strands[n]) (ha : leaves (actionOf s.cfg k) (ctxOf s n))
      (hrest : Rest s n k (ctxOf s n).state (enteredLog s n x k) (s.alarm || alarmOf s.cfg k) t)
  | lasts (ho : ¬ atOnset k s.strands[n]) (hrest : Rest s n k (ctxOf s n).state s.strands[n].log s.alarm t)

theorem FindsOnly.period (h : FindsOnly s n x l k) : FoundEnd s n x k (periodOn n (readSample x) s) := by
  obtain ⟨b, hb⟩ := h.alone
  obtain ⟨y, hbc⟩ := hb.ctx
  obtain ⟨hist, e, m, lt, hmet⟩ := openedBlock_ctx s.cfg.strands[n] (readSample x) s.strands[n]
  have hctx : b.ctx = { ctxOf s n with history := hist, extremes := e, mode := m, levelTarget := lt, lag := y } := by
    rw [hbc, hmet]
    rfl
  have hstate : b.ctx.state = (ctxOf s n).state := by rw [hctx]
  have hblog : b.log = s.strands[n].log := hb.log
  have honset : atOnset k b ↔ atOnset k s.strands[n] := hb.onset
  obtain ⟨ho, ha, hp⟩ | ⟨u, a', al', u', hv, hu', hp⟩ := hb.ends
  · rw [periodOn_eq, hp, laterStages_cut rfl]
    refine .tripped (honset.1 ho) ha ?_ ?_ ?_ rfl
    · rw [ctxOf_withPart]
      rfl
    · rw [withPart_block]
      rfl
    · rw [withPart_block]
      exact hb.entered
  · obtain ⟨z, huc, hz⟩ := hu'.ctx
    have hlog : u'.log = u.log := hu'.log
    have hus : u'.ctx.state = u.ctx.state := by rw [huc]
    have hend : periodOn n (readSample x) s
        = laterStages n (readSample x) (timedStage n (readSample x) (withPart n u' a' al' s)) := by
      rw [periodOn_eq, hp, laterStages_going rfl]
    have rest (ht : u.ctx.state ≠ .tripped) : Rest s n k u.ctx.state u.log al' (periodOn n (readSample x) s) := by
      rw [hend, ← hlog, ← hus]
      exact h.rest (hus.trans_ne ht) hu'.active
    cases hv with
    | lasts ho =>
      refine .lasts (mt honset.2 ho) ?_
      rw [← hstate, ← hblog]
      exact rest (hstate.trans_ne h.tripped)
    | recorded ho ha =>
      refine .recorded (honset.1 ho) (by rwa [leaves, hstate] at ha) ?_
      rw [← hstate, enteredLog, ← hb.entered]
      exact rest (hstate.trans_ne h.tripped)
    | held ho ha g hg =>
      refine .held (honset.1 ho) ha g (hg.trans hstate) ?_ ?_
      · have htimed : timedStage n (readSample x) (withPart n u' (if g = .waitPermit then
            { s.arb with queue := s.arb.queue.filter (·.strand != n) } else s.arb) (s.alarm || alarmOf s.cfg k) s)
            = { st := withPart n u' (if g = .waitPermit then
                { s.arb with queue := s.arb.queue.filter (·.strand != n) } else s.arb) (s.alarm || alarmOf s.cfg k) s
                cut := false } := by
          rw [timedStage, ctxOf_withPart, hus]
        obtain ⟨w, v, st, i, hw, hwc, -⟩ := laterStages_stands (r := readSample x) htimed (.inr (.inr (.inr hus)))
        have hfinal : ctxOf (periodOn n (readSample x) s) n
            = { u'.ctx with speed := v, stopper := st, integrator := i } := by
          rw [hend, hw, ctxOf_withPart, hwc]
        rw [huc, hz rfl rfl, hctx] at hfinal
        constructor <;> rw [hfinal]
      · rw [enteredLog, ← hb.entered]
        exact rest (show StrandState.held ≠ .tripped by decide)

/-! ## The lag count -/

/-- A part of stage 2 before the lag is counted. A strand that still ramps or casts has had at most its log and its
active-condition set changed; and where the period is cut short the strand is TRIPPED, its lag count 0. -/
structure BeforeLag (n : Strand) (s : State) (p : Period) : Prop where
  moves   : isMoving (ctxOf p.st n).state = true →
    ∃ A g, p.st.strands[n] = { s.strands[n] with active := A, log := g }
  cut     : isWatched (ctxOf s n).state = true → p.cut = true → (ctxOf p.st n).state = .tripped ∧ (ctxOf p.st n).lag = 0
  watched : isWatched (ctxOf s n).state = true → p.cut = false → isWatched (ctxOf p.st n).state = true

theorem BeforeLag.unlessCut {p : Period} {f : State → Period} (h : BeforeLag n s p) (hf : ∀ u, BeforeLag n u (f u)) :
    BeforeLag n s (unlessCut f p) := by
  unfold Machine.unlessCut
  split
  · exact h
  · rename_i hc
    have hgoes : p.cut = false := Bool.eq_false_iff.2 hc
    refine ⟨fun hm => ?_, fun hw => (hf p.st).cut (h.watched hw hgoes), fun hw => (hf p.st).watched (h.watched hw hgoes)⟩
    obtain ⟨A, g, hu⟩ := (hf p.st).moves hm
    have hstate : ctxOf (f p.st).st n = ctxOf p.st n := by
      show (f p.st).st.strands[n].ctx = _
      rw [hu]
      rfl
    rw [hstate] at hm
    obtain ⟨A', g', hu'⟩ := h.moves hm
    exact ⟨A, g, by rw [hu, hu']⟩

/-- `t` is `s` but for the log and the active-condition set of strand `n`. -/
abbrev LogAndSet (n : Strand) (s t : State) : Prop := ∃ A g, t.strands[n] = { s.strands[n] with active := A, log := g }

theorem LogAndSet.ctx (h : LogAndSet n s t) : ctxOf t n = ctxOf s n := by
  obtain ⟨A, g, h⟩ := h
  show t.strands[n].ctx = _
  rw [h]
  rfl

theorem LogAndSet.beforeLag (h : LogAndSet n s t) : BeforeLag n s { st := t, cut := false } :=
  ⟨fun _ => h, nofun, fun hw _ => by rwa [h.ctx]⟩

/-- An action after a change of log and active-condition set (R148). -/
theorem LogAndSet.action (h : LogAndSet n s t) {act : Action} (hact : act ≠ .stop) :
    BeforeLag n s { st := applyAction n act t, cut := decide (act = .trip) } := by
  obtain hsame | ⟨hdoes, rfl, -⟩ | ⟨hdoes, rfl⟩ | ⟨-, hstop, -⟩ := applyAction_cases n t act
  · rw [hsame]
    refine ⟨fun _ => h, fun hw hc => ?_, fun hw _ => by rwa [h.ctx]⟩
    obtain rfl : act = .trip := of_decide_eq_true hc
    obtain ⟨hi, ht⟩ := isWatched_iff.1 hw
    rw [← h.ctx] at hi ht
    have hdown := down_enterTripped n t
    rw [← applyAction_trip hi ht, hsame] at hdown
    exact absurd hdown.state ht
  · have hctx : ctxOf (enterTripped n t) n = _ := congrArg Block.ctx (enterTripped_block n t)
    rw [hdoes]
    refine ⟨fun hm => ?_, fun _ _ => ?_, nofun⟩
    · rw [hctx] at hm
      cases hm
    · rw [hctx]
      exact ⟨rfl, rfl⟩
  · rw [hdoes]
    by_cases hg : ∃ g, holdState g = (ctxOf t n).state
    · obtain ⟨g, hg⟩ := hg
      have hctx : ctxOf (holdStrand n t) n = _ := congrArg Block.ctx (holdStrand_block n t hg)
      refine ⟨fun hm => ?_, nofun, fun _ _ => ?_⟩
      · rw [hctx] at hm
        cases hm
      · rw [hctx]
        rfl
    · rw [holdStrand_none n t fun g e => hg ⟨g, e⟩]
      exact h.beforeLag
  · exact absurd hstop hact

theorem raise_logAndSet (n : Strand) (k : Kind) (s : State) : LogAndSet n s (raise n k s) :=
  ⟨s.strands[n].active, _, raise_val n s k⟩

theorem LogAndSet.setCondition (h : LogAndSet n s t) (c : Cond) (v : Bool) : LogAndSet n s (setCondition n c v t) := by
  obtain ⟨A, g, h⟩ := h
  exact ⟨_, _, (mapBlock_same n _ t).trans (by rw [h])⟩

theorem LogAndSet.refl (n : Strand) (s : State) : LogAndSet n s s := ⟨_, _, rfl⟩

theorem checkCond_beforeLag (c : Cond) (f : Finding) : BeforeLag n s (checkCond n c f s) := by
  unfold checkCond
  split
  · split
    · exact (LogAndSet.refl n s).beforeLag
    · exact ((raise_logAndSet n _ s).setCondition c true).action (actionOf_ne_stop (condKind_ne_changeOverrun c))
  · exact ((LogAndSet.refl n s).setCondition c false).beforeLag
  · exact (LogAndSet.refl n s).beforeLag

theorem checkSuspect_beforeLag {r : Reading} {prior : List Nat} : BeforeLag n s (checkSuspect n r prior s) := by
  unfold checkSuspect
  split
  · split
    · exact (raise_logAndSet n _ s).action (actionOf_ne_stop (by decide))
    · exact (LogAndSet.refl n s).beforeLag
  · exact (LogAndSet.refl n s).beforeLag

theorem firstSix_beforeLag (n : Strand) (r : Reading) (prior : List Nat) (s : State) :
    BeforeLag n s (runFrom (firstSix.map (checkOf n r prior)) { st := s, cut := false }) :=
  (((((BeforeLag.unlessCut (LogAndSet.refl n s).beforeLag fun _ => checkCond_beforeLag _ _).unlessCut
    fun _ => checkCond_beforeLag _ _).unlessCut fun _ => checkCond_beforeLag _ _).unlessCut
      fun _ => checkCond_beforeLag _ _).unlessCut fun _ => checkSuspect_beforeLag).unlessCut
        fun _ => checkCond_beforeLag _ _

/-- A control period by its first six checks: cut short there, or going on with the lag count (R9, R152). -/
theorem periodOn_lag (n : Strand) (r : Reading) (s : State) :
    ∃ p, BeforeLag n (openPeriod n r s) p ∧ (p.cut = true → periodOn n r s = p.st)
      ∧ (p.cut = false → ∃ as c, c = (counted r p.st.strands[n]).ctx ∧ Goes as c (ctxOf (periodOn n r s) n)) := by
  refine ⟨_, firstSix_beforeLag n r (suspectHistory s.strands[n]) (openPeriod n r s), fun hc => ?_, fun hc => ?_⟩
  · have hskip : unlessCut (checkLag n r) (runFrom (firstSix.map (checkOf n r (suspectHistory s.strands[n])))
        { st := openPeriod n r s, cut := false }) = _ := if_pos hc
    rw [periodOn_eq, ← openPeriod_part, checks_eq, hskip, laterStages_cut hc]
  · generalize hp : runFrom _ _ = p at hc
    have hend : periodOn n r s = fromLag n r (withPart n p.st.strands[n] p.st.arb p.st.alarm p.st) := by
      rw [periodOn_eq, ← openPeriod_part, checks_eq, hp, withPart_self]
      exact congrArg (fun q => laterStages n r (unlessCut (timedStage n r) q)) (if_neg (by rw [hc]; decide))
    obtain ⟨u, -, huc, -, rs, hr, -⟩ := fromLag_deviates (n := n) (d := p.st.strands[n]) (a := p.st.arb) (al := p.st.alarm)
      (s := p.st) (r := r)
    have hgoes := hr.ctx
    rw [← hend, ctxOf_withPart] at hgoes
    exact ⟨_, u.ctx, huc, hgoes⟩

/-- A strand that ramps or casts before and after a period has its lag counted (R152). -/
theorem periodOn_lag_moving (hm : isMoving (ctxOf (periodOn n (readSample x) s) n).state = true)
    (hw : isWatched (ctxOf s n).state = true) : (ctxOf (periodOn n (readSample x) s) n).lag
      = if lags s n x then lagUp (s.cfg.strands[n].lagt * 2) (ctxOf s n).lag else 0 := by
  obtain ⟨p, hp, hcut, hgoes⟩ := periodOn_lag n (readSample x) s
  have hopen : ctxOf (openPeriod n (readSample x) s) n = (metBlock s n x).ctx := ctxOf_openPeriod n _ s
  rw [← metBlock_state s n x, ← hopen] at hw
  cases hc : p.cut with
  | true =>
    rw [hcut hc, (hp.cut hw hc).1] at hm
    cases hm
  | false =>
    obtain ⟨as, c, rfl, hg⟩ := hgoes hc
    obtain ⟨hm', hlag⟩ := hg.moves hm
    obtain ⟨A, g, hb⟩ := hp.moves hm'
    have hmet : (openPeriod n (readSample x) s).strands[n] = metBlock s n x := by rw [openPeriod_part, withPart_block]
    have hcount : (counted (readSample x) (metBlock s n x)).ctx.lag
        = if lags s n x then lagUp (s.cfg.strands[n].lagt * 2) (ctxOf s n).lag else 0 := by
      rw [← metBlock_lag s n x, ← if_congr lagsAt_iff rfl rfl]
      rfl
    rw [hlag, hb, hmet, ← hcount]
    rfl

/-- Outside RAMP and CAST a period makes the lag count 0 (R152). -/
theorem periodOn_lag_still (hm : isMoving (ctxOf s n).state = false) (hw : isWatched (ctxOf s n).state = true) :
    (ctxOf (periodOn n (readSample x) s) n).lag = 0 := by
  obtain ⟨p, hp, hcut, hgoes⟩ := periodOn_lag n (readSample x) s
  have hopen : (ctxOf (openPeriod n (readSample x) s) n).state = (ctxOf s n).state :=
    (congrArg Ctx.state (ctxOf_openPeriod n _ s)).trans (metBlock_state s n x)
  rw [← hopen] at hw hm
  cases hc : p.cut with
  | true =>
    rw [hcut hc]
    exact (hp.cut hw hc).2
  | false =>
    obtain ⟨as, c, rfl, hg⟩ := hgoes hc
    have hstill : isMoving p.st.strands[n].ctx.state = false := by
      refine Bool.eq_false_iff.2 fun h => ?_
      have hsame : ctxOf p.st n = _ := LogAndSet.ctx (hp.moves h)
      rw [← hsame] at hm
      exact absurd h (Bool.eq_false_iff.1 hm)
    have hzero : (counted (readSample x) p.st.strands[n]).ctx.lag = 0 := by rw [counted_still hstill]
    exact hg.lag.elim (·.trans hzero) id

/-! ## The count of the refill -/

theorem StageMove.refilled {b b' : Block} (h : StageMove b b') : b'.refilled = b.refilled := by cases h <;> rfl

theorem StrandRun.refilled (h : StrandRun StageMove n s t) : t.strands[n].refilled = s.strands[n].refilled :=
  h.keeps (Q := fun b => b.refilled = s.strands[n].refilled) (fun _ _ hm hq => hm.refilled.trans hq) (fun _ _ => id) rfl

theorem SpeedStep.refilled (h : SpeedStep n s t) : t.strands[n].refilled = s.strands[n].refilled := by
  obtain rfl | ⟨y, slot, -, -, -, -, rfl⟩ := h
  · rfl
  · rw [mapCtx_block]

theorem PeriodEnd.refilled {r : Reading} {c : Ctx} {b b' : Block} (h : PeriodEnd r c b b') : b'.refilled = b.refilled := by
  cases h <;> rfl

/-- A period counts its sample toward the refill at its opening and nowhere else (R92, assumption log 28). -/
theorem periodOn_refilled (n : Strand) (r : Reading) (s : State) :
    (periodOn n r s).strands[n].refilled = refillCount r.level s.strands[n] := by
  obtain ⟨m, u, w, hm, hu, hw, hend⟩ := periodOn_cases n r s
  have hopen : (openPeriod n r s).strands[n].refilled = refillCount r.level s.strands[n] := by
    rw [openPeriod_part, withPart_block]
    rfl
  have hstages : w.strands[n].refilled = refillCount r.level s.strands[n] :=
    ((hw.refilled.trans hu.refilled).trans hm.refilled).trans hopen
  obtain hend | ⟨hend, -⟩ := hend <;> rw [hend]
  · exact (closePeriod_end (ctxOf s n)).refilled.trans hstages
  · exact hstages

/-! ## The statement -/

theorem holdState_inj {g g' : HoldReturn} (h : holdState g = holdState g') : g = g' :=
  Option.some.inj ((holdReturnOf_eq_some.2 h).symm.trans (holdReturnOf_eq_some.2 rfl))

theorem not_holdState_of_quiet {st : StrandState} (h : quietAfter st) (g : HoldReturn) : holdState g ≠ st := by
  obtain rfl | rfl | rfl := h <;> cases g <;> decide

/-- Settles O24. -/
theorem checksRecordAndAct : Obligations.ChecksRecordAndAct := by
  constructor
  · intro n x l s k hrun hvalid hmem hinterlock hhigh hsuspect hlow hlag hi ht c b onset quiet entered
    refine ⟨_, exec_period hrun, ?_⟩
    have hhas (hf : b.log.first ≠ none) : ∃ e ∈ entered.next, e.kind = k ∧ (alarmOf s.cfg k = true → e.mark = true) :=
      logRecord_has hf
    have hsome : entered.first ≠ none := logRecord_first_ne_none
    have starts {st : StrandState} {t : State} (h : Rest s n k st entered (s.alarm || alarmOf s.cfg k) t) :
        t.strands[n].log.first = entered.first
          ∧ (b.log.first ≠ none → ∃ e ∈ t.strands[n].log.next, e.kind = k ∧ (alarmOf s.cfg k = true → e.mark = true))
          ∧ (alarmOf s.cfg k = true → t.alarm = true) := by
      refine ⟨h.first hsome, fun hf => ?_, fun hal => h.alarm (by rw [hal, Bool.or_true])⟩
      obtain ⟨e, he, hek, hem⟩ := hhas hf
      obtain ⟨e', he', hek', hem'⟩ := h.keeps e he
      exact ⟨e', he', hek'.trans hek, fun hal => hem' (hem hal)⟩
    obtain ⟨ho, ha, hs, hout, hl, hal⟩ | ⟨ho, ha, g, hg, hheld, hrest⟩ | ⟨ho, ha, hrest⟩ | ⟨ho, hrest⟩ :=
      FindsOnly.period ⟨hvalid, hmem, hinterlock, hhigh, hsuspect, hlow, hlag, hi, ht⟩
    · refine ⟨fun _ => ⟨by rw [hl], fun hf => by rw [hl]; exact hhas hf, fun h => by rw [hal, h, Bool.or_true],
        fun _ => ⟨hs, hout, hl⟩, ?_, ?_, ?_⟩, fun h => absurd ho h, fun h => absurd hs h⟩ <;> simp [ha]
    · obtain ⟨hfirst, hnext, halarm⟩ := starts hrest
      refine ⟨fun _ => ⟨hfirst, hnext, halarm, fun h => ?_, fun _ g' hg' => ?_, fun _ hq => ?_, fun h => ?_⟩,
        fun h => absurd ho h, fun _ => hrest.active⟩
      · rw [ha] at h
        cases h
      · obtain rfl : g = g' := holdState_inj (hg.trans hg'.symm)
        exact ⟨hheld.state, hheld.holdReturn, hheld.lag, hheld.timer, hheld.slot, hheld.permit, (hrest.quiet (.inl rfl)).2⟩
      · exact absurd hg (not_holdState_of_quiet hq g)
      · obtain h | ⟨-, h⟩ := h
        · rw [ha] at h
          cases h
        · exact absurd hg (h g)
    · obtain ⟨hfirst, hnext, halarm⟩ := starts hrest
      refine ⟨fun _ => ⟨hfirst, hnext, halarm, fun h => ?_, fun h g hg => ?_, fun _ => hrest.quiet, fun _ => hrest.noted⟩,
        fun h => absurd ho h, fun _ => hrest.active⟩
      · obtain ha | ⟨ha, -⟩ := ha <;> rw [ha] at h <;> cases h
      · obtain ha | ⟨-, hstill⟩ := ha
        · rw [ha] at h
          cases h
        · exact absurd hg (hstill g)
    · obtain ⟨hfirst, hnext⟩ := hrest.adds
      exact ⟨fun h => absurd h ho, fun _ => ⟨hfirst, hnext, hrest.quiet, hrest.noted⟩, fun _ => hrest.active⟩
  · intro n x s t hrun hexec limit
    obtain rfl : periodOn n (readSample x) s = t := Host.Outcome.next.inj ((exec_period hrun).symm.trans hexec)
    refine ⟨fun hs hm => ?_, fun hs hi ht => ?_, ?_⟩
    · refine periodOn_lag_moving (isMoving_iff.2 hm) (isWatched_iff.2 ?_)
      obtain h | h := hs <;> rw [h] <;> decide
    · exact periodOn_lag_still (Bool.eq_false_iff.2 (mt isMoving_iff.1 hs)) (isWatched_iff.2 ⟨hi, ht⟩)
    · rw [periodOn_refilled]
      rfl

end Acts

end Sys2Proof.Machine
end

section
/-! PROOF. The waiting queue and the holders as lists: where an entry is placed (R96), what a placed entry adds to each
strand's entries, and a strand put into the holders (R95, R100). -/

namespace Sys2Proof.Machine

open Sys2Proof

/-! ## The order of the queue -/

section Queue

variable {e : QEntry} {q : List QEntry}

/-- The order of `queueOrdered`, of a list of entries. -/
abbrev OrderedQueue (q : List QEntry) : Prop :=
  q.Pairwise (fun a b => a.cls ≤ b.cls) ∧ ∀ e ∈ q, e.cls = 1 ∨ e.cls = 2

/-- In an ordered queue the class 1 entries come first, and what follows them is the class 2 entries. -/
theorem OrderedQueue.cut (h : OrderedQueue q) :
    q.takeWhile (·.cls == 1) = q.filter (·.cls == 1) ∧ q.dropWhile (·.cls == 1) = q.filter (·.cls == 2) := by
  induction q with
  | nil => exact ⟨rfl, rfl⟩
  | cons e es ih =>
    obtain ⟨hsorted, hcls⟩ := h
    obtain ⟨hle, hes⟩ := List.pairwise_cons.1 hsorted
    obtain ⟨he, hescls⟩ := List.forall_mem_cons.1 hcls
    obtain ⟨htake, hdrop⟩ := ih ⟨hes, hescls⟩
    obtain he | he := he
    · simp [he, htake, hdrop]
    · have htwo : ∀ x ∈ es, x.cls = 2 := fun x hx => by
        have := hle x hx
        have := hescls x hx
        omega
      have hone : es.filter (·.cls == 1) = [] := List.filter_eq_nil_iff.2 fun x hx => by simp [htwo x hx]
      have hall : es.filter (·.cls == 2) = es := List.filter_eq_self.2 fun x hx => by simp [htwo x hx]
      simp [he, hone, hall]

/-- A placed entry joins those there are. -/
theorem place_perm (e : QEntry) (q : List QEntry) : (place e q).Perm (e :: q) := by
  unfold place
  split
  · refine List.perm_middle.trans (.cons e ?_)
    rw [List.takeWhile_append_dropWhile]
  · exact List.perm_append_singleton e q

/-- A placement keeps the order (R96). -/
theorem OrderedQueue.place (h : OrderedQueue q) (he : e.cls = 1 ∨ e.cls = 2) : OrderedQueue (place e q) := by
  obtain ⟨hsorted, hcls⟩ := h
  refine ⟨?_, fun x hx => ?_⟩
  · unfold Machine.place
    split
    · rename_i h1
      have hdrop : ∀ b ∈ e :: q.dropWhile (·.cls == 1), 1 ≤ b.cls := List.forall_mem_cons.2
        ⟨h1.ge, fun b hb => by have := hcls b ((List.dropWhile_suffix _).subset hb); omega⟩
      refine List.pairwise_append.2 ⟨hsorted.sublist (List.takeWhile_sublist _), List.pairwise_cons.2
        ⟨fun b hb => h1.trans_le (hdrop b (List.mem_cons_of_mem _ hb)), hsorted.sublist (List.dropWhile_sublist _)⟩,
        fun a ha b hb => ?_⟩
      have ha1 : a.cls = 1 := by simpa using List.mem_takeWhile_imp ha
      exact ha1.trans_le (hdrop b hb)
    · have he2 : e.cls = 2 := he.resolve_left ‹_›
      refine List.pairwise_append.2 ⟨hsorted, List.pairwise_singleton _ _, fun a ha b hb => ?_⟩
      obtain rfl := List.mem_singleton.1 hb
      have := hcls a ha
      omega
  · obtain rfl | hx := List.mem_cons.1 ((place_perm e q).subset hx)
    · exact he
    · exact hcls x hx

theorem OrderedQueue.sublist {q' : List QEntry} (h : OrderedQueue q) (hs : q'.Sublist q) : OrderedQueue q' :=
  ⟨h.1.sublist hs, fun x hx => h.2 x (hs.subset hx)⟩

theorem classOf_cases (k : Option RestartKind) : classOf k = 1 ∨ classOf k = 2 := by
  unfold classOf
  split
  · exact .inl rfl
  · exact .inr rfl

/-- Settles O29. -/
theorem enqueuePlacesByClass : Obligations.EnqueuePlacesByClass := by
  intro n s h e
  obtain ⟨htake, hdrop⟩ := OrderedQueue.cut h
  have hplace : (enqueue n s).arb.queue = place e s.arb.queue := rfl
  refine ⟨rfl, rfl, rfl, fun hk => ?_, fun hk => ?_⟩
  · have he : e.cls = 1 := if_pos hk
    refine ⟨he, ?_⟩
    rw [hplace, place, if_pos he, htake, hdrop]
  · have he : e.cls = 2 := if_neg (by simp [hk])
    refine ⟨he, ?_⟩
    rw [hplace, place, if_neg (by rw [he]; decide)]

/-! ## The entries of one strand -/

/-- How many entries strand `n` has in the queue. -/
def entries (n : Strand) (q : List QEntry) : Nat := (q.map QEntry.strand).count n

theorem entries_place (n : Strand) (e : QEntry) (q : List QEntry) :
    entries n (place e q) = entries n q + if e.strand = n then 1 else 0 := by
  rw [entries, ((place_perm e q).map QEntry.strand).count_eq, List.map_cons, List.count_cons]
  simp [entries]

theorem entries_cons (n : Strand) (e : QEntry) (q : List QEntry) :
    entries n (e :: q) = entries n q + if e.strand = n then 1 else 0 := by
  rw [entries, List.map_cons, List.count_cons]
  simp [entries]

/-- A strand that has left the queue has no entry there (R98). -/
theorem entries_left (n : Strand) (q : List QEntry) : entries n (q.filter (·.strand != n)) = 0 := by
  refine List.count_eq_zero_of_not_mem fun h => ?_
  obtain ⟨x, hx, hn⟩ := List.mem_map.1 h
  simp [hn] at hx

/-- The entries of a strand stand where the queue changes in those of another. -/
theorem entries_other {n m : Strand} {q' : List QEntry} (hm : m ≠ n)
    (h : q'.filter (·.strand != n) = q.filter (·.strand != n)) : entries m q' = entries m q := by
  have away (l : List QEntry) : entries m l = entries m (l.filter (·.strand != n)) := by
    have hmap : (l.filter (·.strand != n)).map QEntry.strand = (l.map QEntry.strand).filter (· != n) := by
      rw [List.filter_map]
      rfl
    rw [entries, entries, hmap, List.count_filter (by simpa using hm)]
  rw [away, h, ← away]

end Queue

/-! ## Holders -/

section Holders

variable {n m : Strand} {l l' : List Strand}

theorem mem_addHolder : m ∈ addHolder n l ↔ m = n ∨ m ∈ l := by
  induction l with
  | nil => simp [addHolder]
  | cons k ks ih =>
    unfold addHolder
    split
    · simp
    · split
      · rename_i h
        simp [h]
      · simp only [List.mem_cons, ih]
        tauto

/-- The holders stay in ascending number (R95). -/
theorem addHolder_sorted (h : l.Pairwise (· < ·)) : (addHolder n l).Pairwise (· < ·) := by
  induction l with
  | nil => exact List.pairwise_singleton _ _
  | cons k ks ih =>
    obtain ⟨hk, hks⟩ := List.pairwise_cons.1 h
    unfold addHolder
    split
    · rename_i hn
      exact List.pairwise_cons.2 ⟨List.forall_mem_cons.2 ⟨hn, fun x hx => hn.trans (hk x hx)⟩, h⟩
    · split
      · exact h
      · rename_i hlt hne
        refine List.pairwise_cons.2 ⟨fun x hx => ?_, ih hks⟩
        obtain rfl | hx := mem_addHolder.1 hx
        · exact lt_of_le_of_ne (not_lt.1 hlt) (Ne.symm hne)
        · exact hk x hx

/-- A grant adds one holder at most. -/
theorem length_addHolder_le (n : Strand) (l : List Strand) : (addHolder n l).length ≤ l.length + 1 := by
  induction l with
  | nil => exact Nat.le_refl 1
  | cons k ks ih =>
    unfold addHolder
    split
    · exact Nat.le_refl _
    · split
      · exact Nat.le_succ _
      · exact Nat.succ_le_succ ih

/-- A strand's place among the holders stands where they change in that of another. -/
theorem mem_holders_other (hm : m ≠ n) (h : l'.filter (· != n) = l.filter (· != n)) : m ∈ l' ↔ m ∈ l := by
  have away (k : List Strand) : m ∈ k ↔ m ∈ k.filter (· != n) := by simp [hm]
  rw [away, h, ← away]

end Holders

end Sys2Proof.Machine
end

section
/-! PROOF. What the operations of one strand make of its standing with the Permit Arbiter: they take holders out, they keep
the order of the queue, and they keep Laws 2 and 3 at their strand (R96 to R99, R106, R107). -/

namespace Sys2Proof.Machine

open Sys2Proof

/-! ## Laws 2 and 3 at one strand -/

/-- Laws 2 and 3 (R106, R107) for strand `n` in the context `c`, its entry in the queue counted. -/
structure LawfulAt (n : Strand) (c : Ctx) (a : Arbiter) : Prop where
  holder  : n ∈ a.holders ↔ c.permit = true
  permit  : c.permit = true ↔ holdsRamp c
  entries : entries n a.queue = if c.state = .waitPermit then 1 else 0

/-- What an operation of strand `n` makes of the arbiter and of that strand's standing with it. -/
structure PermitsAt (n : Strand) (s t : State) : Prop where
  holders : t.arb.holders.Sublist s.arb.holders
  ordered : queueOrdered s → queueOrdered t
  lawful  : LawfulAt n (ctxOf s n) s.arb → LawfulAt n (ctxOf t n) t.arb

/-- `c'` stands to the arbiter as `c` does. -/
structure SameStanding (c c' : Ctx) : Prop where
  permit : c'.permit = c.permit
  waits  : c'.state = .waitPermit ↔ c.state = .waitPermit
  ramps  : holdsRamp c' ↔ holdsRamp c

theorem SameStanding.of_eq {c c' : Ctx} (hs : c'.state = c.state) (hh : c'.holdReturn = c.holdReturn)
    (hp : c'.permit = c.permit) : SameStanding c c' :=
  ⟨hp, by rw [hs], by rw [holdsRamp, holdsRamp, hs, hh]⟩

/-- A strand in `c` neither waits nor stands where a permit is held. -/
abbrev Apart (c : Ctx) : Prop := c.state ≠ .waitPermit ∧ ¬ holdsRamp c

theorem apart_of_state {c : Ctx} {st : StrandState} (h : c.state = st)
    (hst : st ≠ .waitPermit ∧ st ≠ .ramp ∧ st ≠ .held) : Apart c := by
  obtain ⟨hw, hr, hh⟩ := hst
  refine ⟨h.trans_ne hw, ?_⟩
  rintro (h' | ⟨h', -⟩)
  · exact hr (h.symm.trans h')
  · exact hh (h.symm.trans h')

theorem SameStanding.outside {c c' : Ctx} (hp : c'.permit = c.permit) (h : Apart c) (h' : Apart c') :
    SameStanding c c' :=
  ⟨hp, iff_of_false h'.1 h.1, iff_of_false h'.2 h.2⟩

section Rules

variable {n : Strand} {s t u : State}

protected theorem PermitsAt.refl (n : Strand) (s : State) : PermitsAt n s s := ⟨.refl _, id, id⟩

protected theorem PermitsAt.trans (h : PermitsAt n s t) (k : PermitsAt n t u) : PermitsAt n s u :=
  ⟨k.holders.trans h.holders, k.ordered ∘ h.ordered, k.lawful ∘ h.lawful⟩

/-! ## The three ways of an operation with the arbiter -/

/-- An operation without a message to the arbiter. -/
theorem PermitsAt.stays (ha : t.arb = s.arb) (hc : SameStanding (ctxOf s n) (ctxOf t n)) : PermitsAt n s t := by
  refine ⟨ha ▸ .refl _, ?_, fun h => ⟨?_, ?_, ?_⟩⟩
  · rw [queueOrdered, queueOrdered, ha]
    exact id
  · rw [ha, hc.permit]
    exact h.holder
  · rw [hc.permit, hc.ramps]
    exact h.permit
  · rw [ha, h.entries]
    simp only [hc.waits]

theorem mapBlock_permits {f : Block → Block} (h : SameStanding s.strands[n].ctx (f s.strands[n]).ctx) :
    PermitsAt n s (mapBlock n f s) :=
  .stays rfl (by rw [ctxOf_mapBlock]; exact h)

theorem mapCtx_permits {f : Ctx → Ctx} (h : SameStanding (ctxOf s n) (f (ctxOf s n))) : PermitsAt n s (mapCtx n f s) :=
  mapBlock_permits h

/-- Under Law 2 a strand that goes on to a state other than RAMP keeps its permit from RAMP into HELD alone (R99). -/
theorem permitAfter_kept {c : Ctx} {next : StrandState} (h : c.permit = true ↔ holdsRamp c) (hr : next ≠ .ramp) :
    permitAfter c next = true ↔ c.state = .ramp ∧ next = .held := by
  by_cases hg : givesBack c next
  · rw [permitAfter, if_pos hg]
    obtain ⟨h1, h2⟩ | ⟨h1, -⟩ := hg
    · simp [h2]
    · simp [h1]
  · rw [permitAfter, if_neg hg, h]
    constructor
    · rintro (h1 | ⟨h1, h2⟩)
      · exact ⟨h1, not_not.1 fun e => hg (.inl ⟨h1, e⟩)⟩
      · exact absurd (.inr ⟨h1, h2, hr⟩) hg
    · exact fun h1 => .inl h1.1

/-- A strand that goes on to `next` after its messages (R10, R98, R99). -/
theorem leaving_permits {f : Block → Block} {next : StrandState} (hw : next ≠ .waitPermit) (hr : next ≠ .ramp)
    (hs : ∀ b, (f b).ctx.state = next) (hp : ∀ b, (f b).ctx.permit = b.ctx.permit)
    (hh : next = .held → ∀ b, (f b).ctx.holdReturn = some .ramp ↔ (ctxOf s n).state = .ramp) :
    PermitsAt n s (mapBlock n f (leaveFor n next s)) := by
  have harb : (mapBlock n f (leaveFor n next s)).arb = arbAfter n (ctxOf s n) next s.arb := leaveFor_arb n next s
  have hholders : (mapBlock n f (leaveFor n next s)).arb.holders
      = if givesBack (ctxOf s n) next then s.arb.holders.filter (· != n) else s.arb.holders := congrArg _ harb
  have hqueue : (mapBlock n f (leaveFor n next s)).arb.queue
      = if leavesQueue (ctxOf s n) next then s.arb.queue.filter (·.strand != n) else s.arb.queue := congrArg _ harb
  have hstate : (ctxOf (mapBlock n f (leaveFor n next s)) n).state = next := by rw [ctxOf_mapBlock, hs]
  have hpermit : (ctxOf (mapBlock n f (leaveFor n next s)) n).permit = permitAfter (ctxOf s n) next := by
    rw [ctxOf_mapBlock, hp, leaveFor_block]
  have hramps : holdsRamp (ctxOf (mapBlock n f (leaveFor n next s)) n)
      ↔ (ctxOf s n).state = .ramp ∧ next = .held := by
    rw [holdsRamp, hstate, ctxOf_mapBlock]
    constructor
    · rintro (h | ⟨h, h'⟩)
      · exact absurd h hr
      · exact ⟨(hh h _).1 h', h⟩
    · rintro ⟨h, h'⟩
      exact .inr ⟨h', (hh h' _).2 h⟩
  refine ⟨?_, fun h => ?_, fun h => ⟨?_, ?_, ?_⟩⟩
  · rw [hholders]
    split
    · exact List.filter_sublist
    · exact .refl _
  · rw [queueOrdered, hqueue]
    split
    · exact OrderedQueue.sublist h List.filter_sublist
    · exact h
  · rw [hpermit, hholders, permitAfter]
    split
    · simp
    · exact h.holder
  · rw [hpermit, hramps]
    exact permitAfter_kept h.permit hr
  · rw [hstate, if_neg hw, hqueue]
    split
    · exact entries_left n _
    · rename_i hc
      exact h.entries.trans (if_neg fun e => hc ⟨e, hr⟩)

/-- A strand that has come into WAIT_PERMIT from outside, with its entry placed (R96). -/
theorem PermitsAt.joins {e : QEntry} (ha : t.arb = { s.arb with queue := place e s.arb.queue }) (he : e.strand = n)
    (hc : e.cls = 1 ∨ e.cls = 2) (hs : Apart (ctxOf s n)) (ht : (ctxOf t n).state = .waitPermit)
    (hp : (ctxOf t n).permit = (ctxOf s n).permit) : PermitsAt n s t := by
  have hholders : t.arb.holders = s.arb.holders := by rw [ha]
  have hqueue : t.arb.queue = place e s.arb.queue := by rw [ha]
  have hno : ¬ holdsRamp (ctxOf t n) := by simp [holdsRamp, ht]
  refine ⟨hholders ▸ .refl _, fun h => ?_, fun h => ⟨?_, ?_, ?_⟩⟩
  · rw [queueOrdered, hqueue]
    exact OrderedQueue.place h hc
  · rw [hholders, hp]
    exact h.holder
  · rw [hp]
    exact h.permit.trans (iff_of_false hs.2 hno)
  · rw [if_pos ht, hqueue, entries_place, h.entries, if_neg hs.1, if_pos he]

theorem enqueue_permits {f : Ctx → Ctx} (hs : Apart (ctxOf s n)) (hf : (f (ctxOf s n)).state = .waitPermit)
    (hp : (f (ctxOf s n)).permit = (ctxOf s n).permit) : PermitsAt n s (enqueue n (mapCtx n f s)) :=
  .joins (e := { strand := n, cls := classOf (ctxOf (mapCtx n f s) n).kind, time := s.store.time }) rfl rfl
    (classOf_cases _) hs ((congrArg Ctx.state (ctxOf_mapCtx n f s)).trans hf)
    ((congrArg Ctx.permit (ctxOf_mapCtx n f s)).trans hp)

end Rules

/-! ## The shared operations -/

section Shared

variable {n : Strand} {s : State}

theorem putRecord_permits (r : StrandRec) : PermitsAt n s (putRecord n r s) :=
  .stays rfl (by rw [ctxOf_putRecord]; exact .of_eq rfl rfl rfl)

theorem raise_permits (k : Kind) : PermitsAt n s (raise n k s) := putRecord_permits _

theorem enterTripped_permits : PermitsAt n s (enterTripped n s) :=
  leaving_permits (by decide) (by decide) (fun _ => rfl) (fun _ => rfl) nofun

theorem enterStopping_permits : PermitsAt n s (enterStopping n s) :=
  leaving_permits (by decide) (by decide) (fun _ => rfl) (fun _ => rfl) nofun

theorem enterChange_permits : PermitsAt n s (enterChange n s) :=
  leaving_permits (by decide) (by decide) (fun _ => rfl) (fun _ => rfl) nofun

theorem enterCast_permits : PermitsAt n s (enterCast n s) := by
  unfold enterCast
  exact leaving_permits (by decide) (by decide) (fun _ => rfl) (fun _ => rfl) nofun

theorem freezeStrand_permits : PermitsAt n s (freezeStrand n s) := by
  unfold freezeStrand
  split
  · exact leaving_permits (by decide) (by decide) (fun _ => rfl) (fun _ => rfl) nofun
  · exact .refl n s

/-- A strand held from RAMP keeps its permit, and hold_return says that it does (R21, R99). -/
theorem holdStrand_permits : PermitsAt n s (holdStrand n s) := by
  unfold holdStrand
  split
  · rename_i g h
    refine leaving_permits (by decide) (by decide) (fun _ => rfl) (fun _ => rfl) fun _ _ => ?_
    rw [← holdReturnOf_eq_some.1 h]
    cases g <;> simp [holdState]
  · exact .refl n s

theorem applyAction_permits (a : Action) : PermitsAt n s (applyAction n a s) := by
  obtain h | ⟨h, -⟩ | ⟨h, -⟩ | ⟨h, -⟩ := applyAction_cases n s a <;> rw [h]
  · exact .refl n s
  · exact enterTripped_permits
  · exact holdStrand_permits
  · exact enterStopping_permits

theorem applyActions_permits (as : List Action) : PermitsAt n s (applyActions n as s) := by
  unfold applyActions
  induction as generalizing s with
  | nil => exact .refl n s
  | cons a as ih => exact (applyAction_permits a).trans ih

theorem enterWait_permits (h : (ctxOf s n).state = .fill ∨ (ctxOf s n).state = .dwell) :
    PermitsAt n s (enterWait n s) := by
  have hs : Apart (ctxOf s n) := by
    obtain h | h := h <;> exact apart_of_state h (by decide)
  exact enqueue_permits hs rfl rfl

theorem noteNoPlan_permits (r : PlanRef) : PermitsAt n s (noteNoPlan n r s) := by
  unfold noteNoPlan
  split
  · exact raise_permits _
  · exact .refl n s

end Shared

/-! ## The stages of a control period -/

section Period

variable {n : Strand} {s : State}

theorem unlessCut_permits {f : State → Period} (hf : ∀ u, PermitsAt n u (f u).st) {p : Period}
    (h : PermitsAt n s p.st) : PermitsAt n s (unlessCut f p).st := by
  unfold unlessCut
  split
  · exact h
  · exact h.trans (hf _)

theorem openPeriod_permits (r : Reading) : PermitsAt n s (openPeriod n r s) := by
  refine mapBlock_permits ?_
  dsimp only
  unfold takeLevel
  split <;> split <;> exact .of_eq rfl rfl rfl

theorem setCondition_permits (k : Cond) (b : Bool) : PermitsAt n s (setCondition n k b s) :=
  mapBlock_permits (.of_eq rfl rfl rfl)

theorem checkCond_permits (k : Cond) (f : Finding) : PermitsAt n s (checkCond n k f s).st := by
  unfold checkCond
  split
  · split
    · exact .refl n s
    · exact ((raise_permits _).trans (setCondition_permits _ _)).trans (applyAction_permits _)
  · exact setCondition_permits k false
  · exact .refl n s

theorem checkSuspect_permits (r : Reading) (prior : List Nat) : PermitsAt n s (checkSuspect n r prior s).st := by
  unfold checkSuspect
  split
  · split
    · exact (raise_permits _).trans (applyAction_permits _)
    · exact .refl n s
  · exact .refl n s

theorem checkLag_permits (r : Reading) : PermitsAt n s (checkLag n r s).st := by
  unfold checkLag
  exact (mapCtx_permits (.of_eq rfl rfl rfl)).trans (checkCond_permits _ _)

theorem checks_permits (r : Reading) (prior : List Nat) : PermitsAt n s (checks n r prior s).st := by
  unfold checks
  exact unlessCut_permits (fun _ => checkLag_permits r) <| unlessCut_permits (fun _ => checkCond_permits _ _) <|
    unlessCut_permits (fun _ => checkSuspect_permits r prior) <| unlessCut_permits (fun _ => checkCond_permits _ _) <|
      unlessCut_permits (fun _ => checkCond_permits _ _) <| unlessCut_permits (fun _ => checkCond_permits _ _) <|
        checkCond_permits _ _

theorem advanceTimer_permits : PermitsAt n s (advanceTimer n s) := mapCtx_permits (.of_eq rfl rfl rfl)

theorem timeoutTest_permits (k : Kind) (limit : Nat) : PermitsAt n s (timeoutTest n k limit s).st := by
  unfold timeoutTest
  split
  · exact .refl n s
  · split
    · exact ((advanceTimer_permits.trans (raise_permits k)).trans (mapCtx_permits (.of_eq rfl rfl rfl))).trans
        (applyAction_permits _)
    · exact advanceTimer_permits

theorem fillStage_permits (r : Reading) (h : (ctxOf s n).state = .fill) : PermitsAt n s (fillStage n r s).st := by
  unfold fillStage quiet
  split
  · dsimp only
    split
    · exact mapCtx_permits (.outside rfl (apart_of_state h (by decide)) (apart_of_state (st := .dwell) rfl (by decide)))
    · exact enterWait_permits (.inl h)
  · exact timeoutTest_permits _ _

theorem dwellStage_permits (h : (ctxOf s n).state = .dwell) : PermitsAt n s (dwellStage n s) := by
  unfold dwellStage
  dsimp only
  split
  · exact advanceTimer_permits.trans (enterWait_permits (.inr (by rw [ctxOf_advanceTimer, h])))
  · exact advanceTimer_permits

theorem floorTest_permits (r : Reading) : PermitsAt n s (floorTest n r s) := by
  unfold floorTest
  split
  · split
    · exact mapCtx_permits (.of_eq rfl rfl rfl)
    · exact .refl n s
  · exact .refl n s

theorem timedStage_permits (r : Reading) : PermitsAt n s (timedStage n r s).st := by
  unfold timedStage
  split
  case h_1 h => exact fillStage_permits r h
  case h_2 h => exact dwellStage_permits h
  case h_3 => exact timeoutTest_permits _ _
  case h_4 => exact floorTest_permits r
  all_goals exact .refl n s

theorem ramped_permits {u : State} (h : PermitsAt n s u) (as : List Action) : PermitsAt n s (Ramped.mk u as).st := h

theorem rampDeviation_permits {x : Ramped} (h : PermitsAt n s x.st) (k : Kind) :
    PermitsAt n s (rampDeviation n k x).st :=
  h.trans (raise_permits k)

theorem startSlot_permits {x : Ramped} (h : PermitsAt n s x.st) (i : Nat) : PermitsAt n s (startSlot n i x).st := by
  unfold startSlot
  dsimp only
  split
  · exact rampDeviation_permits (ramped_permits (h.trans (mapCtx_permits (.of_eq rfl rfl rfl))) _) _
  · exact ramped_permits (h.trans (mapCtx_permits (.of_eq rfl rfl rfl))) _

theorem reportCap_permits {x : Ramped} (h : PermitsAt n s x.st) (l : Limited) : PermitsAt n s (reportCap n l x).st := by
  unfold reportCap
  split
  · exact rampDeviation_permits (ramped_permits (h.trans (mapCtx_permits (.of_eq rfl rfl rfl))) _) _
  · exact h

theorem reportClamp_permits {x : Ramped} (h : PermitsAt n s x.st) (l : Limited) :
    PermitsAt n s (reportClamp n l x).st := by
  unfold reportClamp
  split
  · exact rampDeviation_permits (ramped_permits (h.trans (mapCtx_permits (.of_eq rfl rfl rfl))) _) _
  · exact h

theorem endSlot_permits {x : Ramped} (h : PermitsAt n s x.st) (r : SlotRun) : PermitsAt n s (endSlot n r x).st := by
  unfold endSlot
  dsimp only
  generalize hy : (if (ctxOf x.st n).target = some (ctxOf x.st n).speed then x
    else rampDeviation n .rampShort x) = y
  have h' : PermitsAt n s y.st := by
    rw [← hy]
    split
    · exact h
    · exact rampDeviation_permits h _
  split
  · exact startSlot_permits h' _
  · exact h'.trans enterCast_permits

theorem rampStage_permits : PermitsAt n s (rampStage n s).st := by
  unfold rampStage
  dsimp only
  split
  · split
    · exact endSlot_permits
        (reportClamp_permits (reportCap_permits (ramped_permits (mapCtx_permits (.of_eq rfl rfl rfl)) _) _) _) _
    · exact reportClamp_permits (reportCap_permits (ramped_permits (mapCtx_permits (.of_eq rfl rfl rfl)) _) _) _
  · exact .refl n s

theorem plainStage_permits (x : Int) : PermitsAt n s (plainStage n x s) := mapCtx_permits (.of_eq rfl rfl rfl)

theorem speedStage_permits : PermitsAt n s (speedStage n s).st := by
  unfold speedStage
  split
  case h_1 => exact rampStage_permits
  case h_2 => exact reportClamp_permits (reportCap_permits (ramped_permits (mapCtx_permits (.of_eq rfl rfl rfl)) _) _) _
  case h_9 | h_10 | h_11 => exact .refl n s
  all_goals exact plainStage_permits _

theorem rampAndActions_permits : PermitsAt n s (rampAndActions n s).st :=
  speedStage_permits.trans (applyActions_permits _)

theorem closePeriod_permits (r : Reading) : PermitsAt n s (closePeriod n r s) := by
  have hstop : PermitsAt n s (stopTest n r s) := by
    unfold stopTest
    split
    · rename_i h
      exact mapBlock_permits (.outside rfl (apart_of_state h.1 (by decide)) (apart_of_state (st := .idle) rfl (by decide)))
    · exact .refl n s
  have hloop (g : StrandCfg) (u : State) : PermitsAt n u (mapCtx n (loopStep g r) u) := by
    refine mapCtx_permits ?_
    unfold loopStep
    split <;> exact .of_eq rfl rfl rfl
  unfold closePeriod levelStage driveOutputs
  exact (hstop.trans (hloop _ _)).trans (mapBlock_permits (.of_eq rfl rfl rfl))

/-- A control period (R8). -/
theorem periodOn_permits (r : Reading) : PermitsAt n s (periodOn n r s) := by
  unfold periodOn
  exact unlessCut_permits (fun _ => closePeriod_permits r) <| unlessCut_permits (fun _ => rampAndActions_permits) <|
    unlessCut_permits (fun _ => timedStage_permits r) <| (openPeriod_permits r).trans (checks_permits r _)

end Period

/-! ## The parts of the other events -/

section Parts

variable {n : Strand} {s : State}

theorem changeBeginAt_permits : PermitsAt n s (changeBeginAt n s) := by
  unfold changeBeginAt
  split
  case h_7 h =>
    split
    · exact .refl n s
    · exact mapBlock_permits (.outside rfl (apart_of_state h (by decide)) (apart_of_state h (by decide)))
  case h_8 | h_9 | h_10 | h_11 => exact .refl n s
  all_goals exact enterChange_permits

theorem seatedAt_permits : PermitsAt n s (seatedAt n s) := by
  unfold seatedAt
  split
  · rename_i h
    unfold beginTundish mapCtx
    dsimp only
    rw [mapBlock_mapBlock]
    refine (mapBlock_permits ?_).trans (noteNoPlan_permits _)
    have hs : s.strands[n].ctx.state = .change ∨ s.strands[n].ctx.state = .frozen :=
      (stopsAtOverrun_iff.1 h).imp_right And.left
    obtain hs | hs := hs
    · exact .outside rfl (apart_of_state hs (by decide)) (apart_of_state (if_pos hs) (by decide))
    · exact .outside rfl (apart_of_state hs (by decide))
        (apart_of_state ((if_neg (by rw [hs]; decide)).trans hs) (by decide))
  · exact .refl n s

theorem overrunAt_permits : PermitsAt n s (overrunAt n s) := by
  unfold overrunAt
  split
  · exact (raise_permits _).trans (applyAction_permits _)
  · exact .refl n s

theorem outageAt_permits : PermitsAt n s (outageAt n s) := by
  unfold outageAt
  split
  · exact (raise_permits _).trans (applyAction_permits _)
  · exact .refl n s

/-- A recovered strand, its entry placed where it goes on in WAIT_PERMIT (R97, R139). -/
theorem recovered_permits {t : State} {g : FreezeReturn} {kind : Option RestartKind} {time : Nat}
    (hs : Apart (ctxOf s n)) (ha : t.arb = recoveredArb n g kind time s.arb)
    (hp : (ctxOf t n).permit = (ctxOf s n).permit) (hw : recoversIntoWait g → (ctxOf t n).state = .waitPermit)
    (hn : ¬ recoversIntoWait g → Apart (ctxOf t n)) : PermitsAt n s t := by
  unfold recoveredArb at ha
  by_cases hg : recoversIntoWait g
  · rw [if_pos hg] at ha
    refine .joins ha rfl ?_ hs (hw hg) hp
    dsimp only
    split
    · exact classOf_cases kind
    · exact .inl rfl
  · rw [if_neg hg] at ha
    exact .stays ha (.outside hp hs (hn hg))

theorem recoverAt_permits (measured : Vector Nat 6) : PermitsAt n s (recoverAt measured n s) := by
  obtain h | ⟨g, hf, hg⟩ := frozen_cases (ctxOf s n)
  · rw [recoverAt_untouched h]
    exact .refl n s
  have hs : Apart (ctxOf s n) := apart_of_state hf (by decide)
  by_cases hd : recoversOnDip g (ctxOf s n)
  · rw [recoverAt_dip hf hg hd rfl]
    refine recovered_permits hs rfl (by rw [ctxOf_withPart, noPlanNoted_ctx]; rfl) (fun hw => ?_) fun hw => ?_
    all_goals rw [ctxOf_withPart, noPlanNoted_ctx]
    · obtain rfl | rfl | rfl := hw <;> rfl
    · obtain rfl | rfl | ⟨rfl, -⟩ := hd
      · exact absurd (.inr (.inl rfl)) hw
      · exact absurd (.inr (.inr rfl)) hw
      · exact ⟨nofun, fun h => h.elim nofun fun h => nomatch h.2⟩
  · rw [recoverAt_kept hf hg hd]
    refine recovered_permits hs rfl (by rw [ctxOf_withPart]; rfl) (fun hw => ?_) fun hw => ?_
    all_goals rw [ctxOf_withPart]
    · obtain rfl | rfl | rfl := hw
      · rfl
      · exact absurd (.inl rfl) hd
      · exact absurd (.inr (.inl rfl)) hd
    · cases g with
      | ramp | cast | waitPermit => simp at hw
      | fill => exact apart_of_state (st := .fill) rfl (by decide)
      | dwell => exact apart_of_state (st := .dwell) rfl (by decide)
      | change => exact apart_of_state (st := .change) rfl (by decide)
      | held => exact ⟨nofun, fun h => h.elim nofun fun h => hd (.inr (.inr ⟨rfl, h.2⟩))⟩

/-- RES takes the strand back to where it was held from, its permit with it (R35). -/
theorem resumeStrand_permits {g : HoldReturn} (hs : (ctxOf s n).state = .held) (hg : (ctxOf s n).holdReturn = some g) :
    PermitsAt n s (resumeStrand n g s) := by
  have apart (h : g ≠ .ramp) : Apart (ctxOf s n) := by simp [Apart, holdsRamp, hs, hg, h]
  have stays (h : g ≠ .ramp) (hst : holdState g ≠ .waitPermit ∧ holdState g ≠ .ramp ∧ holdState g ≠ .held) :
      PermitsAt n s (mapCtx n (fun c => { c with state := holdState g, holdReturn := none }) s) :=
    mapCtx_permits (.outside rfl (apart h) (apart_of_state rfl hst))
  cases g with
  | fill | dwell => exact stays nofun (by decide)
  | waitPermit => exact enqueue_permits (apart nofun) rfl rfl
  | ramp =>
    exact mapCtx_permits (f := fun c => { c with state := holdState .ramp, holdReturn := none })
      ⟨rfl, by simp [hs, holdState], by simp [holdsRamp, hs, hg, holdState]⟩

theorem stopStrand_permits : PermitsAt n s (stopStrand n s) := by
  unfold stopStrand
  split
  · exact enterStopping_permits
  · exact .refl n s

theorem beginStart_permits (r : PlanRef) (h : (ctxOf s n).state = .idle) : PermitsAt n s (beginStart n r s) := by
  unfold beginStart mapCtx
  rw [mapBlock_mapBlock]
  exact mapBlock_permits (.outside rfl (apart_of_state h (by decide)) (apart_of_state (st := .fill) rfl (by decide)))

theorem releaseTrip_permits (h : (ctxOf s n).state = .tripped) : PermitsAt n s (releaseTrip n s) := by
  unfold releaseTrip enterIdle
  rw [mapBlock_mapBlock]
  exact mapBlock_permits (.outside rfl (apart_of_state h (by decide)) (apart_of_state (st := .idle) rfl (by decide)))

end Parts

end Sys2Proof.Machine
end

section
/-! PROOF. Grant evaluations (R100 to R102): the one entry each grant takes, the condition an evaluation ends with, and the
spacing timer's expiry. -/

namespace Sys2Proof.Machine

open Sys2Proof

section Evaluation

variable {n : Strand} {s : State}

/-! ## What a grant leaves of the queue -/

/-- A strand that does not wait has no entry to take out of the queue. -/
theorem leaveFor_queue (h : (ctxOf s n).state ≠ .waitPermit) (next : StrandState) :
    (leaveFor n next s).arb.queue = s.arb.queue := by
  rw [leaveFor_arb, arbAfter]
  exact if_neg fun hl => h hl.1

theorem applyAction_queue (h : (ctxOf s n).state ≠ .waitPermit) (a : Action) :
    (applyAction n a s).arb.queue = s.arb.queue ∧ (ctxOf (applyAction n a s) n).state ≠ .waitPermit := by
  obtain h' | ⟨h', -⟩ | ⟨h', -⟩ | ⟨h', -⟩ := applyAction_cases n s a <;> rw [h']
  · exact ⟨rfl, h⟩
  · exact ⟨leaveFor_queue h _, by rw [ctxOf, enterTripped_block]; nofun⟩
  · unfold holdStrand
    split
    · exact ⟨leaveFor_queue h _, by rw [ctxOf_mapCtx]; nofun⟩
    · exact ⟨rfl, h⟩
  · exact ⟨leaveFor_queue h _, by rw [ctxOf, enterStopping_block]; nofun⟩

theorem applyActions_queue (h : (ctxOf s n).state ≠ .waitPermit) (as : List Action) :
    (applyActions n as s).arb.queue = s.arb.queue := by
  unfold applyActions
  induction as generalizing s with
  | nil => rfl
  | cons a as ih =>
    obtain ⟨hq, hs⟩ := applyAction_queue h a
    exact (ih hs).trans hq

theorem startSlot_arb (i : Nat) (x : Ramped) : (startSlot n i x).st.arb = x.st.arb := by
  unfold startSlot
  dsimp only
  split <;> rfl

/-- A grant takes the head of the queue and nothing else (R100). -/
theorem grantHead_queue {e : QEntry} {rest : List QEntry} (h : s.arb.queue = e :: rest) :
    (grantHead s).arb.queue = rest := by
  rw [grantHead_eq h]
  unfold strandGrant
  dsimp only
  split
  · have hx := (RampRun.start e.strand (mapCtx e.strand (fun c => { c with state := .ramp, permit := true })
      (arbiterGrant e.strand rest s))).startSlot (by simp) 1
    have hramp := hx.state.trans (congrArg Ctx.state (ctxOf_mapCtx _ _ _))
    rw [applyActions_queue (hramp.trans_ne nofun), startSlot_arb]
    rfl
  · rfl

theorem grantHead_rest (s : State) : SameRest s (grantHead s) := by
  unfold grantHead
  split
  · rfl
  · rename_i e rest _
    have hgrant : SameRest s (arbiterGrant e.strand rest s) := rfl
    exact SameRest.trans hgrant (strandGrant_only _ _).rest

/-- A grant touches no strand but the head of the queue. -/
theorem grantHead_other {e : QEntry} {rest : List QEntry} (h : s.arb.queue = e :: rest) {m : Strand} (hm : e.strand ≠ m) :
    (grantHead s).strands[m] = s.strands[m] := by
  rw [grantHead_eq h, (strandGrant_only _ _).others m (Ne.symm hm)]
  rfl

/-! ## An evaluation -/

/-- Each grant shortens the queue, so that as many grants as it has entries end with a condition failing (R101). -/
theorem grantWhile_ends {k : Nat} (h : s.arb.queue.length ≤ k) : canGrant (grantWhile k s) = false := by
  induction k generalizing s with
  | zero =>
    have hq : s.arb.queue = [] := List.eq_nil_of_length_eq_zero (Nat.le_zero.1 h)
    simp [grantWhile, canGrant, hq]
  | succ k ih =>
    unfold grantWhile
    split
    · rename_i hc
      obtain ⟨-, -, -, hq⟩ := (canGrant_iff s).1 hc
      obtain ⟨e, rest, hq⟩ := List.exists_cons_of_ne_nil hq
      refine ih ?_
      rw [grantHead_queue hq]
      rw [hq] at h
      exact Nat.le_of_succ_le_succ h
    · exact Bool.eq_false_iff.2 ‹_›

theorem evaluateGrants_ends (s : State) : canGrant (evaluateGrants s) = false := grantWhile_ends (Nat.le_refl _)

theorem evaluateGrants_rest (s : State) : SameRest s (evaluateGrants s) :=
  evaluateGrants_keeps (P := SameRest s) (fun t _ h => SameRest.trans h (grantHead_rest t)) rfl

/-- An evaluation takes entries from the head of the queue alone (R101). -/
theorem evaluateGrants_queue (s : State) : (evaluateGrants s).arb.queue <:+ s.arb.queue := by
  refine evaluateGrants_keeps (P := fun t => t.arb.queue <:+ s.arb.queue) (fun t hc h => ?_) List.suffix_rfl
  obtain ⟨-, -, -, hq⟩ := (canGrant_iff t).1 hc
  obtain ⟨e, rest, hq⟩ := List.exists_cons_of_ne_nil hq
  rw [grantHead_queue hq]
  exact (hq ▸ List.suffix_cons e rest).trans h

theorem evaluateGrants_other {m : Strand} (hm : ∀ e ∈ s.arb.queue, e.strand ≠ m) :
    (evaluateGrants s).strands[m] = s.strands[m] := by
  refine (evaluateGrants_keeps (P := fun t => t.arb.queue <:+ s.arb.queue ∧ t.strands[m] = s.strands[m])
    (fun t hc ht => ?_) ⟨List.suffix_rfl, rfl⟩).2
  obtain ⟨hs, hb⟩ := ht
  obtain ⟨-, -, -, hq⟩ := (canGrant_iff t).1 hc
  obtain ⟨e, rest, hq⟩ := List.exists_cons_of_ne_nil hq
  refine ⟨?_, (grantHead_other hq (hm e (hs.subset (by simp [hq])))).trans hb⟩
  rw [grantHead_queue hq]
  exact (hq ▸ List.suffix_cons e rest).trans hs

theorem exec_grantEvaluation (h : s.phase = .running) : exec .grantEvaluation s = .next (evaluateGrants s) := by
  rw [exec, execGrantEvaluation, whenRunning, if_pos h]

/-- Settles O27. -/
theorem grantEvaluationEndsWithAConditionFailing : Obligations.GrantEvaluationEndsWithAConditionFailing := by
  intro s h
  refine ⟨_, exec_grantEvaluation h, evaluateGrants_rest s, evaluateGrants_queue s, fun hc => ?_,
    fun m hm => evaluateGrants_other hm⟩
  exact Bool.false_ne_true ((evaluateGrants_ends s).symm.trans ((canGrant_iff _).2 hc))

/-! ## The spacing timer -/

/-- The counter wraps after its last value (R154). -/
theorem timeAfter_eq {time : Nat} (h : time ≤ 4294967295) :
    (time + 1) % 4294967296 = if time = 4294967295 then 0 else time + 1 := by
  split <;> omega

/-- The expiry of a running spacing timer is an evaluation of the state with the timer stopped (R102). -/
theorem exec_spacingTimerExpiry (h : s.phase = .running) (hs : s.arb.spacing.isSome = true) :
    exec .spacingTimerExpiry s = .next (evaluateGrants { s with arb := { s.arb with spacing := none } }) := by
  rw [exec, execSpacingTimerExpiry, whenRunning, if_pos h, spacingExpires, if_pos hs]

/-- Settles O30. -/
theorem timeCountsAndSpacingExpires : Obligations.TimeCountsAndSpacingExpires := by
  intro s h
  refine ⟨fun ht => ?_, fun hs => ?_, fun hs hno => ?_, fun hs => ?_⟩
  · rw [exec, execTimeCounterTick, whenRunning, if_pos h, tick, timeAfter_eq ht]
    rfl
  · rw [exec, execSpacingTimerExpiry, whenRunning, if_pos h, spacingExpires, hs]
    rfl
  · rw [exec_spacingTimerExpiry h hs, evaluateGrants_none]
    refine Bool.eq_false_iff.2 fun hc => ?_
    obtain ⟨hm, hp, -, hq⟩ := (canGrant_iff _).1 hc
    obtain hno | hno | hno := hno
    · exact hno hm
    · exact hq hno
    · exact absurd hp (not_lt.2 hno)
  · rw [exec_spacingTimerExpiry h hs, exec_grantEvaluation (s := { s with arb := { s.arb with spacing := none } }) h]

end Evaluation

end Sys2Proof.Machine
end

section
/-! PROOF. Laws 1 to 3 and the order of the queue at every step (R96, R105 to R107): each event is made of operations that
stay with their strand, and of grants, which leave the holders within PMAX. -/

namespace Sys2Proof.Machine

open Sys2Proof

/-! ## Laws 2 and 3 at all strands -/

/-- Laws 2 and 3 but for the snapshot (R106, R107). -/
structure Lawful (s : State) : Prop where
  sorted : s.arb.holders.Pairwise (· < ·)
  strand : ∀ n : Strand, LawfulAt n (ctxOf s n) s.arb

/-- A strand stands in the queue exactly while it waits, and once, as its entries are counted. -/
theorem queueLaw_iff {s : State} :
    queueLaw s ↔ ∀ n : Strand, entries n s.arb.queue = if (ctxOf s n).state = .waitPermit then 1 else 0 := by
  unfold entries
  constructor
  · rintro ⟨hd, hw⟩ n
    rw [hd.count]
    simp only [hw]
  · intro h
    refine ⟨List.nodup_iff_count_le_one.2 fun n => ?_, fun n => ?_⟩
    · rw [h]
      split <;> decide
    · rw [← List.count_pos_iff, h]
      split <;> simp [*]

/-- A context in the snapshot that holds a permit stands where one is held. -/
abbrev snapshotLaw (s : State) : Prop :=
  ∀ d ∈ s.store.snapshot.data, ∀ n : Strand, d.ctxs[n].permit = true → holdsRamp d.ctxs[n]

theorem laws_iff {s : State} : permitLaw s ∧ queueLaw s ↔ Lawful s ∧ snapshotLaw s := by
  rw [queueLaw_iff]
  constructor
  · rintro ⟨⟨hs, hh, hp, hd⟩, hq⟩
    exact ⟨⟨hs, fun n => ⟨hh n, hp n, hq n⟩⟩, hd⟩
  · rintro ⟨⟨hs, h⟩, hd⟩
    exact ⟨⟨hs, fun n => (h n).holder, fun n => (h n).permit, hd⟩, fun n => (h n).entries⟩

/-! ## What an event makes of the arbiter -/

/-- An event that leaves the settings and the snapshot's data: it adds no holder, or leaves the holders within PMAX; it
keeps the order of the queue, and Laws 2 and 3. -/
structure PermitsKept (s t : State) : Prop where
  cfg      : t.cfg = s.cfg
  snapshot : t.store.snapshot.data = s.store.snapshot.data
  holders  : t.arb.holders.Sublist s.arb.holders ∨ t.arb.holders.length ≤ t.cfg.plant.pmax
  ordered  : queueOrdered s → queueOrdered t
  lawful   : Lawful s → Lawful t

section Kept

variable {n : Strand} {s t u : State}

protected theorem PermitsKept.refl (s : State) : PermitsKept s s := ⟨rfl, rfl, .inl (.refl _), id, id⟩

protected theorem PermitsKept.trans (h : PermitsKept s t) (k : PermitsKept t u) : PermitsKept s u where
  cfg := k.cfg.trans h.cfg
  snapshot := k.snapshot.trans h.snapshot
  holders := by
    obtain hk | hk := k.holders
    · refine h.holders.imp hk.trans fun hh => ?_
      rw [k.cfg]
      exact hk.length_le.trans hh
    · exact .inr hk
  ordered := k.ordered ∘ h.ordered
  lawful := k.lawful ∘ h.lawful

/-- A change that no context and no part of the arbiter but the spacing timer sees. -/
theorem PermitsKept.other (hc : ∀ n : Strand, ctxOf t n = ctxOf s n) (hh : t.arb.holders = s.arb.holders)
    (hq : t.arb.queue = s.arb.queue) (hg : t.cfg = s.cfg)
    (hd : t.store.snapshot.data = s.store.snapshot.data) : PermitsKept s t := by
  refine ⟨hg, hd, .inl (hh ▸ .refl _), ?_, fun h => ⟨hh ▸ h.sorted, fun n => ⟨?_, ?_, ?_⟩⟩⟩
  · rw [queueOrdered, queueOrdered, hq]
    exact id
  · rw [hc, hh]
    exact (h.strand n).holder
  · rw [hc]
    exact (h.strand n).permit
  · rw [hc, hq]
    exact (h.strand n).entries

theorem PermitsKept.ofOther (h : PermitsKept t u) (hs : t.strands = s.strands) (hh : t.arb.holders = s.arb.holders)
    (hq : t.arb.queue = s.arb.queue) (hg : t.cfg = s.cfg)
    (hd : t.store.snapshot.data = s.store.snapshot.data) : PermitsKept s u :=
  (PermitsKept.other (fun n => by rw [ctxOf, ctxOf, hs]) hh hq hg hd).trans h

/-- An operation of one strand (R10): every other strand's standing with the arbiter stays. -/
theorem PermitsAt.kept (h : PermitsAt n s t) (ho : StrandOnly n s t) : PermitsKept s t := by
  refine ⟨ho.cfg, by rw [ho.store], .inl h.holders, h.ordered, fun hl => ⟨hl.sorted.sublist h.holders, fun m => ?_⟩⟩
  by_cases hm : m = n
  · exact hm ▸ h.lawful (hl.strand n)
  · have hc : ctxOf t m = ctxOf s m := congrArg Block.ctx (ho.others m hm)
    obtain ⟨hh, hp, hq⟩ := hl.strand m
    rw [hc]
    exact ⟨(mem_holders_other hm ho.holders).trans hh, hp, (entries_other hm ho.queue).trans hq⟩

theorem forEach_permits {f : Strand → State → State} (ho : ∀ m t, StrandOnly m t (f m t))
    (hf : ∀ m t, PermitsAt m t (f m t)) (s : State) : PermitsKept s (forEach f s) :=
  forEach_keeps (P := PermitsKept s) (fun m t h => h.trans ((hf m t).kept (ho m t))) (.refl s)

/-! ## Grants -/

/-- The head of the queue as a grant has made it a holder in RAMP, its slot not yet started (R17, R100). -/
def granted (n : Strand) (rest : List QEntry) (s : State) : State :=
  mapCtx n (fun c => { c with state := .ramp, permit := true }) (arbiterGrant n rest s)

theorem strandGrant_granted {rest : List QEntry} (h : (ctxOf s n).state = .waitPermit) :
    PermitsKept (granted n rest s) (strandGrant n (arbiterGrant n rest s)) := by
  have h' : (ctxOf (arbiterGrant n rest s) n).state = .waitPermit := h
  rw [strandGrant, if_pos h']
  exact ((startSlot_permits (ramped_permits (.refl n _) []) 1).trans (applyActions_permits _)).kept
    ((startSlot_only (ramped_only (.refl n _) []) 1).trans (applyActions_only n _ _))

/-- A grant leaves the holders within PMAX, one more among them than before at most (R105). -/
theorem arbiterGrant_within (hc : canGrant s = true) (n : Strand) (rest : List QEntry) :
    (arbiterGrant n rest s).arb.holders.length ≤ s.cfg.plant.pmax := by
  obtain ⟨-, hp, -⟩ := (canGrant_iff s).1 hc
  exact (length_addHolder_le n _).trans hp

theorem granted_kept {e : QEntry} {rest : List QEntry} (hc : canGrant s = true) (hq : s.arb.queue = e :: rest) :
    PermitsKept s (granted e.strand rest s) := by
  refine ⟨rfl, rfl, .inr (arbiterGrant_within hc _ _), fun h => ?_, fun h => ⟨addHolder_sorted h.sorted, fun m => ?_⟩⟩
  · exact OrderedQueue.sublist (q := s.arb.queue) h (hq ▸ List.sublist_cons_self e rest)
  · have hentries := (h.strand m).entries
    rw [hq, entries_cons] at hentries
    by_cases hm : m = e.strand
    · subst hm
      rw [granted, ctxOf_mapCtx]
      refine ⟨iff_of_true (mem_addHolder.2 (.inl rfl)) rfl, iff_of_true rfl (.inl rfl), ?_⟩
      rw [if_neg nofun]
      rw [if_pos rfl] at hentries
      show entries e.strand rest = 0
      split at hentries <;> omega
    · rw [granted, ctxOf_mapCtx_other _ _ _ _ hm]
      obtain ⟨hh, hp, -⟩ := h.strand m
      rw [if_neg (Ne.symm hm)] at hentries
      exact ⟨mem_addHolder.trans ((or_iff_right hm).trans hh), hp, hentries⟩

theorem grantHead_permits (hc : canGrant s = true) : PermitsKept s (grantHead s) := by
  obtain ⟨-, -, -, hq⟩ := (canGrant_iff s).1 hc
  obtain ⟨e, rest, hq⟩ := List.exists_cons_of_ne_nil hq
  rw [grantHead_eq hq]
  by_cases hw : (ctxOf s e.strand).state = .waitPermit
  · exact (granted_kept hc hq).trans (strandGrant_granted hw)
  · have hw' : ¬ (ctxOf (arbiterGrant e.strand rest s) e.strand).state = .waitPermit := hw
    rw [strandGrant, if_neg hw']
    refine ⟨rfl, rfl, .inr (arbiterGrant_within hc _ _), fun h => ?_, fun h => ?_⟩
    · exact OrderedQueue.sublist (q := s.arb.queue) h (hq ▸ List.sublist_cons_self e rest)
    · have hentries := (h.strand e.strand).entries
      rw [hq, entries_cons, if_pos rfl, if_neg hw] at hentries
      omega

theorem evaluateGrants_permits (s : State) : PermitsKept s (evaluateGrants s) :=
  evaluateGrants_keeps (P := PermitsKept s) (fun _ hc h => h.trans (grantHead_permits hc)) (.refl s)

end Kept

/-! ## Events of a running part -/

section Events

variable {s : State}

theorem raisePlant_permits (k : Kind) (affected : List Strand) (s : State) : PermitsKept s (raisePlant k affected s) :=
  .other (fun _ => rfl) rfl rfl rfl rfl

theorem answer_permits (r : Reply) (s : State) : PermitsKept s (answer r s) := .other (fun _ => rfl) rfl rfl rfl rfl

theorem periodOn_kept (n : Strand) (r : Reading) (s : State) : PermitsKept s (periodOn n r s) :=
  (periodOn_permits r).kept (periodOn_only n r s)

theorem spacingExpires_permits (s : State) : PermitsKept s (spacingExpires s) := by
  unfold spacingExpires
  split
  · exact (evaluateGrants_permits _).ofOther rfl rfl rfl rfl rfl
  · exact .refl s

theorem beginEdge_permits (s : State) : PermitsKept s (beginEdge s) := by
  unfold beginEdge
  split
  · exact (forEach_permits changeBeginAt_only (fun _ _ => changeBeginAt_permits) _).ofOther rfl rfl rfl rfl rfl
  · exact .refl s

theorem seatedEdge_permits (s : State) : PermitsKept s (seatedEdge s) := by
  unfold seatedEdge
  split
  · exact (forEach_permits seatedAt_only (fun _ _ => seatedAt_permits) _).ofOther rfl rfl rfl rfl rfl
  · exact raisePlant_permits _ _ s

theorem onEdge_permits {edge : State → State} (h : ∀ u, PermitsKept u (edge u)) (b : Bool) (s : State) :
    PermitsKept s (onEdge b edge s) := by
  unfold onEdge
  split
  · exact h s
  · exact .refl s

theorem sampleCar_permits (b w first : Bool) (s : State) : PermitsKept s (sampleCar b w first s) := by
  have beginning := onEdge_permits beginEdge_permits
  have seating := onEdge_permits seatedEdge_permits
  unfold sampleCar
  dsimp only
  split
  · exact ((seating _ _).trans (beginning _ _)).ofOther rfl rfl rfl rfl rfl
  · exact ((beginning _ _).trans (seating _ _)).ofOther rfl rfl rfl rfl rfl

theorem windowExpires_permits (s : State) : PermitsKept s (windowExpires s) := by
  unfold windowExpires
  split
  · exact (forEach_permits overrunAt_only (fun _ _ => overrunAt_permits) _).ofOther rfl rfl rfl rfl rfl
  · exact .refl s

theorem enterDip_permits (s : State) : PermitsKept s (enterDip s) :=
  (forEach_permits freezeStrand_only (fun _ _ => freezeStrand_permits) _).ofOther rfl rfl rfl rfl rfl

theorem handleVolts_permits (s : State) : PermitsKept s (handleVolts s) := by
  have monitor (m : Monitor) : PermitsKept s { s with mon := m } := .other (fun _ => rfl) rfl rfl rfl rfl
  unfold handleVolts
  dsimp only
  split
  · split
    · exact enterDip_permits s
    · exact .refl s
  · split
    · exact monitor _
    · exact .refl s
  · split
    · exact .refl s
    · split <;> exact monitor _
  · split
    · exact .refl s
    · exact monitor _

theorem settleExpires_permits (measured : Vector Nat 6) (s : State) : PermitsKept s (settleExpires measured s) := by
  have recoveries := forEach_permits (fun m t => recoverAt_only m t measured) fun _ _ => recoverAt_permits measured
  obtain h | ⟨-, -, -, h⟩ | ⟨-, -, -, h⟩ := settleExpires_cases measured s <;> rw [h]
  · exact .refl s
  · exact ((recoveries _).trans (evaluateGrants_permits _)).ofOther rfl rfl rfl rfl rfl
  · exact (evaluateGrants_permits _).ofOther rfl rfl rfl rfl rfl

theorem rideExpires_permits (s : State) : PermitsKept s (rideExpires s) := by
  unfold rideExpires
  split
  · exact ((forEach_permits outageAt_only (fun _ _ => outageAt_permits) _).trans (raisePlant_permits _ _ _)).ofOther
      rfl rfl rfl rfl rfl
  · exact .refl s

theorem receive_permits (x : Option Nat) (s : State) : PermitsKept s (receive x s) := by
  obtain ⟨l, h⟩ := receive_line x s
  rw [h]
  exact .other (fun _ => rfl) rfl rfl rfl rfl

theorem foldl_receive_permits (chars : Text) (s : State) :
    PermitsKept s (chars.foldl (fun u x => receive (some x) u) s) := by
  induction chars generalizing s with
  | nil => exact .refl s
  | cons x xs ih => exact (receive_permits _ s).trans (ih _)

theorem saveCompletes_permits (a b : Bool) (s : State) : PermitsKept s (saveCompletes a b s) := by
  unfold saveCompletes
  split
  · split <;> exact .other (fun _ => rfl) rfl rfl rfl rfl
  · exact .refl s

/-! ## Requests -/

theorem writePlan_permits (p : Nat) (f : Plan → Plan) (s : State) : PermitsKept s (writePlan p f s) := by
  unfold writePlan
  split
  · exact answer_permits _ s
  · split <;> exact .other (fun _ => rfl) rfl rfl rfl rfl

theorem checkPlan_permits (p : Nat) (s : State) : PermitsKept s (checkPlan p s) := by
  unfold checkPlan
  split
  · exact answer_permits _ s
  · split
    · exact answer_permits _ s
    · split
      · exact answer_permits _ s
      · exact answer_permits _ s
      · split <;> exact .other (fun _ => rfl) rfl rfl rfl rfl

theorem begAt_permits (k : Nat) (plan : Option Nat) (seated ready : Bool) (s : State) :
    PermitsKept s (begAt k plan seated ready s) := by
  unfold begAt
  split
  · exact answer_permits _ s
  · rename_i n _
    split
    · exact answer_permits _ s
    · rename_i r h
      have hi : (ctxOf s n).state = .idle := by
        by_contra hne
        simp [begChecks, hne] at h
      have ho : StrandOnly n s (beginStart n r s) := (mapCtx_only n s _).trans (mapBlock_only n _ _)
      exact ((beginStart_permits r hi).kept ho).trans (answer_permits _ _)

theorem hldAt_permits (k : Nat) (s : State) : PermitsKept s (hldAt k s) := by
  unfold hldAt
  split
  · exact answer_permits _ s
  · split
    · exact (holdStrand_permits.kept (holdStrand_only _ s)).trans (answer_permits _ _)
    · exact answer_permits _ s

theorem answerUnless_permits (b : Bool) (r : Reply) (s : State) : PermitsKept s (answerUnless b r s) := by
  unfold answerUnless
  split
  · exact .refl s
  · exact answer_permits r s

theorem hldAllAt_permits (b : Bool) (s : State) : PermitsKept s (hldAllAt b s) :=
  (forEach_permits holdStrand_only (fun _ _ => holdStrand_permits) s).trans (answerUnless_permits b _ _)

theorem stpAt_permits (k : Nat) (s : State) : PermitsKept s (stpAt k s) := by
  unfold stpAt
  split
  · exact answer_permits _ s
  · split
    · exact (stopStrand_permits.kept (stopStrand_only _ s)).trans (answer_permits _ _)
    · exact answer_permits _ s

theorem stpAllAt_permits (b : Bool) (s : State) : PermitsKept s (stpAllAt b s) :=
  (forEach_permits stopStrand_only (fun _ _ => stopStrand_permits) s).trans (answerUnless_permits b _ _)

theorem resAt_permits (k : Nat) (plan : Option Nat) (s : State) : PermitsKept s (resAt k plan s) := by
  unfold resAt
  split
  · exact answer_permits _ s
  · split
    · rename_i hs hg
      exact ((resumeStrand_permits hs hg).kept (resumeStrand_only _ _ s)).trans (answer_permits _ _)
    · exact answer_permits _ s

theorem relAt_permits (k m : Nat) (s : State) : PermitsKept s (relAt k m s) := by
  unfold relAt
  split
  · exact answer_permits _ s
  · rename_i n _
    split
    · exact answer_permits _ s
    · rename_i h
      have ht : (ctxOf s n).state = .tripped := by
        by_contra hne
        simp [relChecks, hne] at h
      have ho : StrandOnly n s (releaseTrip n s) := (enterIdle_only n s).trans (mapBlock_only n _ _)
      exact ((releaseTrip_permits ht).kept ho).trans (answer_permits _ _)

theorem ackAt_permits (l : LogSel) (s : State) : PermitsKept s (ackAt l s) := by
  have clear (n : Strand) : PermitsKept s (mapBlock n (fun b => { b with log := Log.empty }) s) :=
    (mapBlock_permits (.of_eq rfl rfl rfl)).kept (mapBlock_only n s _)
  unfold ackAt
  split
  · exact .other (fun _ => rfl) rfl rfl rfl rfl
  · split
    · exact answer_permits _ s
    · exact (clear _).trans (.other (fun _ => rfl) rfl rfl rfl rfl)

theorem savAt_permits (s : State) : PermitsKept s (savAt s) := by
  unfold savAt
  split
  · exact answer_permits _ s
  · split <;> exact .other (fun _ => rfl) rfl rfl rfl rfl

theorem rstAt_permits (s : State) : PermitsKept s (rstAt s) := by
  unfold rstAt
  split
  · exact answer_permits _ s
  · split <;> exact .other (fun _ => rfl) rfl rfl rfl rfl

end Events

/-! ## A step -/

/-- What a step makes of the arbiter: no new holder, or the holders within PMAX; and the laws. -/
structure PermitStep (s t : State) : Prop where
  holders : t.arb.holders.Sublist s.arb.holders ∨ t.arb.holders.length ≤ t.cfg.plant.pmax
  ordered : queueOrdered s → queueOrdered t
  laws    : permitLaw s → queueLaw s → permitLaw t ∧ queueLaw t

theorem PermitsKept.step {s t : State} (h : PermitsKept s t) : PermitStep s t := by
  refine ⟨h.holders, h.ordered, fun hp hq => laws_iff.2 ?_⟩
  obtain ⟨hl, hd⟩ := laws_iff.1 ⟨hp, hq⟩
  refine ⟨h.lawful hl, ?_⟩
  rw [snapshotLaw, h.snapshot]
  exact hd

/-- No law of the arbiter speaks of the settings, PMAX in the step's own end apart. -/
theorem PermitsKept.step_cfg {s t : State} {c : Cfg} (h : PermitsKept { s with cfg := c } t) : PermitStep s t :=
  ⟨h.step.holders, h.step.ordered, h.step.laws⟩

/-- A request that the interface or its owner answers (R179). -/
theorem serve_permitStep {r : Request} {act : State → State} (h : ∀ u, PermitStep u (act u)) (s : State) :
    PermitStep s (whenRunning (serve r act) s) := by
  have line (l : Line) : PermitsKept s { s with line := l } := .other (fun _ => rfl) rfl rfl rfl rfl
  unfold whenRunning serve
  split
  · split
    · split
      · exact ((line _).trans (answer_permits _ _)).step
      · obtain ⟨hh, ho, hl⟩ := h { s with line := lineTaking r s.line }
        exact ⟨hh, ho, hl⟩
    · exact (line _).step
  · exact (PermitsKept.refl s).step

/-- A PUT (R101, R165): the evaluation a raised PMAX brings is made under the new PMAX. -/
theorem applyPut_permitStep (pairs : List (CfgKey × Value)) (s : State) : PermitStep s (applyPut pairs s) := by
  unfold applyPut
  dsimp only
  split
  · exact (evaluateGrants_permits _).step_cfg
  · exact (PermitsKept.refl _).step_cfg

theorem putAt_permitStep (pairs : List (CfgKey × Value)) (s : State) : PermitStep s (putAt pairs s) := by
  unfold putAt
  split
  · exact (answer_permits _ s).step
  · obtain ⟨hh, ho, hl⟩ := applyPut_permitStep pairs (answer okPlain s)
    exact ⟨hh, ho, hl⟩

/-! ## Control power and the starts -/

section Power

variable {s t : State}

theorem ctxOf_forceOutputs (s : State) (n : Strand) : ctxOf (forceOutputs s) n = ctxOf s n := by
  rw [ctxOf, forceOutputs_block]
  rfl

theorem forceOutputs_permits (s : State) : PermitsKept s (forceOutputs s) := by
  refine .other (ctxOf_forceOutputs s) ?_ ?_ ?_ ?_ <;> rw [forceOutputs_rest]

/-- The snapshot SHUTDOWN begins to write holds contexts that obey Law 2 (R106, R169). -/
theorem enterShutdown_permitStep (s : State) : PermitStep s (enterShutdown s) := by
  have h : PermitsKept s { enterShutdown s with store := s.store } := by
    refine .other (ctxOf_forceOutputs s) ?_ ?_ ?_ rfl <;> rw [enterShutdown_rest]
  refine ⟨h.holders, h.ordered, fun hp hq => laws_iff.2 ?_⟩
  obtain ⟨hl, -⟩ := laws_iff.1 ⟨hp, hq⟩
  obtain ⟨hsorted, hat⟩ := h.lawful hl
  refine ⟨⟨hsorted, hat⟩, fun d hd n => ?_⟩
  rw [enterShutdown_rest] at hd
  obtain rfl := Option.mem_some_iff.1 hd
  have hn : (snapshotOf s).ctxs[n] = ctxOf s n := by simp [snapshotOf, ctxOf]
  rw [hn]
  exact (hl.strand n).permit.1

/-- A start leaves no holder and an empty queue (R95). -/
theorem started_permitStep (ha : t.arb = startArbiter) (hd : t.store.snapshot.data = s.store.snapshot.data)
    (hc : snapshotLaw s → ∀ n : Strand, (ctxOf t n).permit = false ∧ Apart (ctxOf t n)) : PermitStep s t := by
  refine ⟨.inl (ha ▸ List.nil_sublist _), fun _ => ?_, fun hp hq => laws_iff.2 ?_⟩
  · rw [queueOrdered, ha]
    exact ⟨.nil, nofun⟩
  · obtain ⟨-, hs⟩ := laws_iff.1 ⟨hp, hq⟩
    refine ⟨⟨ha ▸ .nil, fun n => ?_⟩, by rwa [snapshotLaw, hd]⟩
    obtain ⟨hperm, hwait, hramp⟩ := hc hs n
    rw [ha, startArbiter]
    exact ⟨by simp [hperm], by simp [hperm, hramp], by rw [if_neg hwait]; rfl⟩

/-- A strand as new (R5). -/
theorem powerOn_apart (lnorm : Nat) : (Ctx.powerOn lnorm).permit = false ∧ Apart (Ctx.powerOn lnorm) :=
  ⟨rfl, apart_of_state (st := .idle) rfl (by decide)⟩

theorem startBase_permitStep {k : StartKind} {volts : Nat} (hk : k = .powerOn ∨ k = .lineReset) :
    PermitStep s (driveAlarm (startBase k volts s)) := by
  refine started_permitStep rfl rfl fun _ n => ?_
  have hn : ctxOf (driveAlarm (startBase k volts s)) n = Ctx.powerOn (loadedData s).cfg.strands[n].lnorm := by
    refine (congrArg Block.ctx (startBase_block (k := k) (volts := volts) n)).trans ?_
    obtain rfl | rfl := hk <;> rfl
  rw [hn]
  exact powerOn_apart _

/-- A strand restored from a snapshot that obeys Law 2 gives back any permit as it is tripped (R29, R172). -/
theorem restored_apart {snap : SnapData} {terminals : Vector Sample 6} {volts : Nat} {n : Strand}
    (h : snap.ctxs[n].permit = true → holdsRamp snap.ctxs[n]) :
    let b := (forEach (powerLostAt terminals) (startBase (.powerReturn snap) volts s)).strands[n]
    b.ctx.permit = false ∧ Apart b.ctx := by
  intro b
  have hb : b = _ := powerReturn_block terminals volts snap s n
  rw [hb]
  split
  · rename_i hi
    have hc : (startBlock (.powerReturn snap) (loadedData s).cfg.strands[n] n).ctx = Ctx.powerOn _ := if_pos hi
    rw [hc]
    exact powerOn_apart _
  · rename_i hi
    have hc : (startBlock (.powerReturn snap) (loadedData s).cfg.strands[n] n).ctx
        = { snap.ctxs[n] with history := [] } := if_neg hi
    refine ⟨?_, apart_of_state (st := .tripped) rfl (by decide)⟩
    show permitAfter (startBlock (.powerReturn snap) (loadedData s).cfg.strands[n] n).ctx .tripped = false
    rw [hc, permitAfter_eq (by decide) (by decide)]
    split
    · rfl
    · rename_i hr
      exact Bool.eq_false_iff.2 fun e => hr (h e)

theorem powerStart_permitStep (terminals : Vector Sample 6) (volts : Nat) (s : State) :
    PermitStep s (powerStart terminals volts s) := by
  cases hk : startKind s with
  | lineReset => exact absurd hk (startKind_ne_lineReset s)
  | powerOn =>
    rw [powerStart_powerOn hk]
    obtain ⟨hh, ho, hl⟩ := startBase_permitStep (s := endSnapshotWrite s) (volts := volts) (.inl rfl)
    exact ⟨hh, ho, hl⟩
  | powerReturn snap =>
    have hdata : s.store.snapshot.data = some snap := by
      unfold startKind at hk
      split at hk
      · split at hk
        · cases hk
          assumption
        · cases hk
      · cases hk
    have apart (hlaw : snapshotLaw s) (n : Strand) :=
      restored_apart (s := endSnapshotWrite s) (terminals := terminals) (volts := volts) (hlaw snap hdata n)
    rw [powerStart_powerReturn hk, powerReturnTrips_rest terminals rfl]
    generalize (forEach (powerLostAt terminals) (startBase (.powerReturn snap) volts (endSnapshotWrite s))).strands
      = blocks at apart ⊢
    exact started_permitStep rfl rfl apart

end Power

/-! ## Every command -/

/-- What every command makes of the arbiter. -/
theorem exec_permitStep {i : Instr} {s t : State} (h : exec i s = .next t) : PermitStep s t := by
  have same {u : State} (hs : u.strands = s.strands) (ha : u.arb = s.arb) (hc : u.cfg = s.cfg)
      (hd : u.store.snapshot.data = s.store.snapshot.data) : PermitStep s u :=
    (PermitsKept.other (fun n => by rw [ctxOf, ctxOf, hs]) (by rw [ha]) (by rw [ha]) hc hd).step
  have when {f : State → State} (hf : PermitsKept s (f s)) : PermitStep s (whenRunning f s) := by
    unfold whenRunning
    split
    · exact hf.step
    · exact (PermitsKept.refl s).step
  have serves {r : Request} {act : State → State} (hf : ∀ u, PermitsKept u (act u)) :
      PermitStep s (whenRunning (serve r act) s) := serve_permitStep (fun u => (hf u).step) s
  cases i with
  | controlPeriod n x => cases h; exact when (periodOn_kept n _ s)
  | grantEvaluation => cases h; exact when (evaluateGrants_permits s)
  | spacingTimerExpiry => cases h; exact when (spacingExpires_permits s)
  | carLineSampling b w first => cases h; exact when (sampleCar_permits b w first s)
  | changeWindowExpiry => cases h; exact when (windowExpires_permits s)
  | busVoltageSampling v => cases h; exact when ((handleVolts_permits _).ofOther rfl rfl rfl rfl rfl)
  | settleTimerExpiry m => cases h; exact when (settleExpires_permits m s)
  | rideThroughExpiry => cases h; exact when (rideExpires_permits s)
  | timeCounterTick => cases h; exact when (.other (fun _ => rfl) rfl rfl rfl rfl)
  | requestLine chars => cases h; exact when (foldl_receive_permits chars s)
  | characterReceived code p f => cases h; exact when (receive_permits _ s)
  | saveCompletion a b => cases h; exact when (saveCompletes_permits a b s)
  | replySent v =>
    cases h
    unfold whenRunning replyDone
    split
    · split
      · exact (PermitsKept.refl s).step
      · split
        · exact startBase_permitStep (.inr rfl)
        · exact same rfl rfl rfl rfl
    · exact (PermitsKept.refl s).step
  | sta | getIdent | getStrand | getLog | getPlan | getSlot | getCfg | getPermit | getStore | getTime =>
    cases h
    exact serves fun u => answer_permits _ u
  | getCause | getLineerr => cases h; exact serves fun u => .other (fun _ => rfl) rfl rfl rfl rfl
  | put pairs => cases h; exact serve_permitStep (putAt_permitStep pairs) s
  | plnHeaderWrite | plnSlotWrite | plnClr => cases h; exact serves (writePlan_permits _ _)
  | chk p => cases h; exact serves (checkPlan_permits p)
  | beg n p b r => cases h; exact serves (begAt_permits n p b r)
  | hld n => cases h; exact serves (hldAt_permits n)
  | hldAll b => cases h; exact serves (hldAllAt_permits b)
  | res n p => cases h; exact serves (resAt_permits n p)
  | stp n => cases h; exact serves (stpAt_permits n)
  | stpAll b => cases h; exact serves (stpAllAt_permits b)
  | rel n m => cases h; exact serves (relAt_permits n m)
  | ack l => cases h; exact serves (ackAt_permits l)
  | sav => cases h; exact serves savAt_permits
  | rst => cases h; exact serves rstAt_permits
  | shutdown =>
    cases h
    unfold supplyFails
    split
    · exact enterShutdown_permitStep s
    all_goals exact same rfl rfl rfl rfl
  | controlSupplyFailingDeassert =>
    cases h
    unfold supplyRestored
    split <;> exact same rfl rfl rfl rfl
  | powerApplication f =>
    cases h
    have hlost : PermitsKept s (losePower s) := .other (fun _ => rfl) rfl rfl rfl rfl
    have happly : PermitsKept (forceOutputs (losePower s)) (applyPower f s) := .other (fun _ => rfl) rfl rfl rfl rfl
    exact ((hlost.trans (forceOutputs_permits _)).trans happly).step
  | start terminals volts =>
    cases h
    split
    · exact powerStart_permitStep terminals volts s
    · exact (PermitsKept.refl s).step
  | controlPowerLoss => cases h; exact same rfl rfl rfl rfl
  | snapshotCompletion =>
    cases h
    unfold snapshotDone
    split <;> exact same rfl rfl rfl rfl

theorem step_permitStep {s t : State} (h : step s = .next t) : PermitStep s t := by
  unfold step at h
  split at h
  · cases h
    exact (PermitsKept.refl s).step
  · obtain ⟨hh, ho, hl⟩ := exec_permitStep h
    exact ⟨hh, ho, hl⟩

/-- Settles O3: every operation keeps the standing of its own strand with the arbiter, and leaves that of the others. -/
theorem permitAndQueueLawsKept : Obligations.PermitAndQueueLawsKept :=
  ⟨fun _ _ hp hq h => (step_permitStep h).laws hp hq, fun _ _ ho h => (step_permitStep h).ordered ho⟩

theorem pmax_le {c : Cfg} (h : cfgOk c) : c.plant.pmax ≤ 3 := by
  obtain ⟨-, hp, -⟩ := h
  have ha := hp .pmax (by decide)
  simp only [accepts, getPlantItem, within, plantRange, Bool.and_eq_true] at ha
  exact of_decide_eq_true ha.2

/-- Settles O4: a step adds no holder, or it grants and leaves the holders within PMAX. -/
theorem holdersStayWithinPmax : Obligations.HoldersStayWithinPmax := by
  intro s t h
  have hstep := step_permitStep h
  refine ⟨fun n hn ht => ?_, fun hs hmax => ?_, fun hset hs => ?_⟩
  · exact hstep.holders.resolve_left fun hsub => hn (hsub.subset ht)
  · obtain hsub | hlen := hstep.holders
    · exact (hsub.length_le.trans hs).trans hmax
    · exact hlen
  · obtain hsub | hlen := hstep.holders
    · exact hsub.length_le.trans hs
    · exact hlen.trans (pmax_le (storedValuesStayInRange.1 s t hset h).1)

end Sys2Proof.Machine
end

section
/-! PROOF. The reads of the plant's blocks (R109, R154, R168, R174, R177, R181, R182), each the field list of its reply. -/

namespace Sys2Proof.Machine

open Sys2Proof

section PlantReads

variable {s : State}

/-- A field of one of two words. -/
theorem word_ite (b : Bool) (x y : String) : word (if b then x else y) = if b then word x else word y := apply_ite word _ _ _

theorem word_slash : word "/" = [47] := by decide

theorem entryText_eq (e : QEntry) : entryText e
    = decimal (e.strand.val + 1) ++ word ":" ++ decimal e.cls ++ word ":" ++ decimal e.time := by
  simp [entryText, joinColon, strandText, word]

theorem staReply_eq (s : State) : staReply s =
    { ok := true
      fields :=
        [monitorWord s.mon.state, changeWord s.coord.state,
         decimal s.arb.holders.length ++ word "/" ++ decimal s.cfg.plant.pmax, decimal s.arb.queue.length,
         word (if s.alarm then "ON" else "OFF"), word (if s.store.saving then "SAVING" else "IDLE"),
         stateCode (ctxOf s 0).state, stateCode (ctxOf s 1).state, stateCode (ctxOf s 2).state,
         stateCode (ctxOf s 3).state, stateCode (ctxOf s 4).state, stateCode (ctxOf s 5).state] } := by
  rw [word_ite, word_ite, word_slash, List.append_assoc]
  rfl

theorem storeReply_eq (s : State) : storeReply s =
    { ok := true
      fields := [word (if s.store.saving then "SAVING" else "IDLE"), word (if s.store.lastOk then "OK" else "FAIL"),
                 decimal s.store.image.count, word (if s.store.image.valid then "VALID" else "INVALID")] } := by
  rw [word_ite, word_ite, word_ite]
  rfl

theorem permitReply_eq (s : State) : permitReply s =
    { ok := true
      fields := [decimal s.cfg.plant.pmax, decimal s.cfg.plant.gap]
        ++ decimal s.arb.holders.length :: s.arb.holders.map (fun n => decimal (n.val + 1))
        ++ decimal s.arb.queue.length :: s.arb.queue.map (fun e =>
            decimal (e.strand.val + 1) ++ word ":" ++ decimal e.cls ++ word ":" ++ decimal e.time)
        ++ [match s.arb.spacing with
            | some t => decimal (t / 10)
            | none => word "STOPPED"] } := by
  simp only [← entryText_eq, ← listFields_map]
  cases h : s.arb.spacing <;> rw [permitReply, h] <;> rfl

/-- GET CFG reads every item there is (R163, R182). -/
theorem keyExists_of_getItem {c : Cfg} {k : CfgKey} {v : Value} (h : getItem c k = some v) : keyExists k = true := by
  cases k with
  | strand | plant => rfl
  | act k | alm k =>
    obtain ⟨i, hi, -⟩ := Option.map_eq_some_iff.1 h
    exact Option.isSome_of_mem hi

theorem cfgReply_of_getItem {k : CfgKey} {v : Value} (h : getItem s.cfg k = some v) :
    cfgReply k s = { ok := true, fields := [valueText v] } := by
  rw [cfgReply, h]
  rfl

/-- Settles O44: each read is its reply, on the state whose line has taken the request. -/
theorem plantReadsReportTheState : Obligations.PlantReadsReportTheState := by
  refine ⟨fun s ht => request_readOnly ht rfl (staReply_eq _), fun s => ⟨fun ht => ?_, fun k v hv ht => ?_, fun ht => ?_,
    fun ht => ?_, fun ht => ?_⟩, fun s => ⟨fun ht => ?_, fun ht => ?_⟩⟩
  · exact request_readOnly ht rfl rfl
  · have hr : interfaceRefusal (.getCfg k) = none := if_pos (keyExists_of_getItem hv)
    exact request_readOnly ht hr (cfgReply_of_getItem hv)
  · exact request_readOnly ht rfl rfl
  · exact request_readOnly ht rfl (storeReply_eq _)
  · exact request_readOnly ht rfl (permitReply_eq _)
  · have hserved : exec .getCause s = _ := request_served ht rfl
    rw [hserved, readCause, answer_taking]
    rfl
  · have hserved : exec .getLineerr s = _ := request_served ht rfl
    rw [hserved, readLineErrors, answer_taking]
    rfl

end PlantReads

end Sys2Proof.Machine
end

section
/-! PROOF. An accepted PUT (R101, R103, R163 to R165): what one pair writes, what all of them together make of the set of
values, and the grant evaluation a raised PMAX brings. -/

namespace Sys2Proof.Machine

open Sys2Proof

/-! ## One accepted pair -/

section Item

variable {k : Kind} {key : CfgKey} {v : Value}

/-- A kind stands in the list of R146 at its number. -/
theorem allKinds_kindNumber (k : Kind) : allKinds[kindNumber k - 1]? = some k := by
  cases k <;> rfl

theorem kindNumber_injective : Function.Injective kindNumber := fun j k h =>
  Option.some_injective _ (by rw [← allKinds_kindNumber j, h, allKinds_kindNumber])

/-- The ACT items are those of kinds 2 to 12, in order (R147). -/
theorem kindNumber_of_actPlace {i : Fin 11} (h : actPlace k = some i) : kindNumber k = i.val + 2 := by
  cases k <;> cases h <;> rfl

/-- The ALM items are those of kinds 2 to 14 and 17 to 19, in order (R147). -/
theorem kindNumber_of_almPlace {i : Fin 16} (h : almPlace k = some i) :
    kindNumber k = if i.val < 13 then i.val + 2 else i.val + 4 := by
  cases k <;> cases h <;> rfl

/-- No two kinds share a place in a steering table. -/
def PlacesApart {m : Nat} (place : Kind → Option (Fin m)) : Prop := ∀ j k i, place j = some i → place k = some i → j = k

theorem actPlace_apart : PlacesApart actPlace := fun _ _ _ hj hk =>
  kindNumber_injective ((kindNumber_of_actPlace hj).trans (kindNumber_of_actPlace hk).symm)

theorem almPlace_apart : PlacesApart almPlace := fun _ _ _ hj hk =>
  kindNumber_injective ((kindNumber_of_almPlace hj).trans (kindNumber_of_almPlace hk).symm)

/-- A steering table read after one of its places was set. -/
theorem placed_set {m : Nat} {place : Kind → Option (Fin m)} (hp : PlacesApart place) {i : Fin m} (hk : place k = some i)
    {α : Type} (f : α → Value) (table : Vector α m) (a : α) (j : Kind) :
    (place j).map (fun x => f (table.set i a)[x]) = if k = j then some (f a) else (place j).map fun x => f table[x] := by
  by_cases hj : k = j
  · subst hj
    simp [hk]
  · rw [if_neg hj]
    refine Option.map_congr fun x hx => congrArg f ?_
    have hx' : i.val ≠ x.val := fun e => hj (hp k j x (hk.trans (congrArg some (Fin.ext e))) hx)
    exact Vector.getElem_set_ne _ _ hx'

theorem steerValue_of_steerOf {a : Steer} (h : steerOf v = some a) : steerValue a = v := by
  cases v <;> cases h <;> rfl

/-- A plant item is no steering item. -/
theorem setPlantItem_steering (g : PlantCfg) (i : PlantItem) (v : Value) :
    (setPlantItem g i v).act = g.act ∧ (setPlantItem g i v).alm = g.alm := by
  cases v with
  | num x => cases i <;> exact ⟨rfl, rfl⟩
  | parityNone | even =>
    simp only [setPlantItem]
    split <;> exact ⟨rfl, rfl⟩
  | _ => exact ⟨rfl, rfl⟩

/-- An accepted pair of an ACT key sets the place of its kind (R147). -/
theorem setItem_act (h : accepts (.act k) v = true) (c : Cfg) : ∃ i a, actPlace k = some i ∧ steerValue a = v
    ∧ setItem c (.act k) v = { c with plant := { c.plant with act := c.plant.act.set i a } } := by
  obtain ⟨hi, ha⟩ := Bool.and_eq_true_iff.1 h
  obtain ⟨i, hi⟩ := Option.isSome_iff_exists.1 hi
  obtain ⟨a, ha⟩ := Option.isSome_iff_exists.1 ha
  exact ⟨i, a, hi, steerValue_of_steerOf ha, by simp only [setItem, hi, ha]⟩

/-- An accepted pair of an ALM key sets the place of its kind (R147). -/
theorem setItem_alm (h : accepts (.alm k) v = true) (c : Cfg) :
    ∃ (i : Fin 16) (b : Bool), almPlace k = some i ∧ (if b then .on else .off) = v
      ∧ setItem c (.alm k) v = { c with plant := { c.plant with alm := c.plant.alm.set i b } } := by
  obtain ⟨hi, hv⟩ := Bool.and_eq_true_iff.1 h
  obtain ⟨i, hi⟩ := Option.isSome_iff_exists.1 hi
  obtain rfl | rfl : v = .on ∨ v = .off := by simpa using hv
  · exact ⟨i, true, hi, rfl, by simp only [setItem, hi]⟩
  · exact ⟨i, false, hi, rfl, by simp only [setItem, hi]⟩

/-- A place of the ACT table after one accepted pair. -/
theorem getItem_act_setItem (h : accepts key v = true) (c : Cfg) (j : Kind) :
    getItem (setItem c key v) (.act j) = if key = .act j then some v else getItem c (.act j) := by
  cases key with
  | strand i n => rfl
  | plant i => simp only [getItem, setItem, (setPlantItem_steering c.plant i v).1, if_neg, reduceCtorEq, not_false_eq_true]
  | act k =>
    obtain ⟨i, a, hi, rfl, hset⟩ := setItem_act h c
    simp only [hset, getItem, placed_set actPlace_apart hi, CfgKey.act.injEq]
  | alm k =>
    obtain ⟨i, b, -, -, hset⟩ := setItem_alm h c
    rw [hset, if_neg nofun]
    rfl

/-- A place of the ALM table after one accepted pair. -/
theorem getItem_alm_setItem (h : accepts key v = true) (c : Cfg) (j : Kind) :
    getItem (setItem c key v) (.alm j) = if key = .alm j then some v else getItem c (.alm j) := by
  cases key with
  | strand i n => rfl
  | plant i => simp only [getItem, setItem, (setPlantItem_steering c.plant i v).2, if_neg, reduceCtorEq, not_false_eq_true]
  | alm k =>
    obtain ⟨i, b, hi, rfl, hset⟩ := setItem_alm h c
    simp only [hset, getItem, placed_set almPlace_apart hi (fun b : Bool => if b then Value.on else .off),
      CfgKey.alm.injEq]
  | act k =>
    obtain ⟨i, a, -, -, hset⟩ := setItem_act h c
    rw [hset, if_neg nofun]
    rfl

/-- An accepted pair gives its key its value and leaves every other item (R165). -/
theorem getItem_setItem (h : accepts key v = true) (c : Cfg) (l : CfgKey) :
    getItem (setItem c key v) l = if key = l then some v else getItem c l := by
  cases l with
  | strand i n => simp only [getItem, getStrandItem_setItem h, apply_ite some]
  | plant i => simp only [getItem, getPlantItem_setItem h, apply_ite some]
  | act j => exact getItem_act_setItem h c j
  | alm j => exact getItem_alm_setItem h c j

end Item

/-! ## All pairs of a PUT -/

section Pairs

variable {k : CfgKey} {v : Value} {pairs before after : List (CfgKey × Value)} {s : State}

/-- The resulting set keeps every item that no pair names. -/
theorem getItem_applyPairs_unnamed (ha : ∀ q ∈ pairs, accepts q.1 q.2 = true) (hk : ∀ v, (k, v) ∉ pairs) (c : Cfg) :
    getItem (applyPairs c pairs) k = getItem c k := by
  induction pairs generalizing c with
  | nil => rfl
  | cons q qs ih =>
    obtain ⟨hq, hqs⟩ := List.forall_mem_cons.1 ha
    have hne : q.1 ≠ k := fun e => hk q.2 (e ▸ List.mem_cons_self)
    calc getItem (applyPairs (setItem c q.1 q.2) qs) k
      _ = getItem (setItem c q.1 q.2) k := ih hqs (fun v hv => hk v (List.mem_cons_of_mem _ hv)) _
      _ = getItem c k := by rw [getItem_setItem hq, if_neg hne]

/-- The last pair of a key counts (R165, test 3). -/
theorem getItem_applyPairs_last (ha : ∀ q ∈ before ++ (k, v) :: after, accepts q.1 q.2 = true)
    (hk : ∀ w, (k, w) ∉ after) (c : Cfg) : getItem (applyPairs c (before ++ (k, v) :: after)) k = some v := by
  obtain ⟨-, ha⟩ := List.forall_mem_append.1 ha
  obtain ⟨hv, hafter⟩ := List.forall_mem_cons.1 ha
  have hsplit : applyPairs c (before ++ (k, v) :: after) = applyPairs (setItem (applyPairs c before) k v) after := by
    simp only [applyPairs, List.foldl_append, List.foldl_cons]
  rw [hsplit, getItem_applyPairs_unnamed hafter hk, getItem_setItem hv, if_pos rfl]

theorem pairRefusal_eq_none {q : CfgKey × Value} (ha : accepts q.1 q.2 = true)
    (hi : ∀ n : Strand, q.1 = .strand .enabled n → (ctxOf s n).state = .idle) : pairRefusal s q = none := by
  unfold pairRefusal
  split
  · rw [if_neg (not_not.2 (hi _ ‹_›)), if_pos ha]
  · exact if_pos ha

/-- The three tests of PUT passed (R165). -/
theorem putRefusal_eq_none (hs : s.store.saving = false) (ha : ∀ q ∈ pairs, accepts q.1 q.2 = true)
    (hi : ∀ (n : Strand) (v : Value), (.strand .enabled n, v) ∈ pairs → (ctxOf s n).state = .idle)
    (hx : ∀ q ∈ pairs, crossCheck (applyPairs s.cfg pairs) q.1 = true) : putRefusal s pairs = none := by
  have hpairs : pairs.findSome? (pairRefusal s) = none :=
    List.findSome?_eq_none_iff.2 fun q hq => pairRefusal_eq_none (ha q hq) fun n hn => hi n q.2 (hn ▸ hq)
  have hcross : pairs.find? (fun q => !crossCheck (applyPairs s.cfg pairs) q.1) = none :=
    List.find?_eq_none.2 fun q hq => by simp [hx q hq]
  rw [putRefusal, hs, if_neg Bool.false_ne_true, hpairs]
  dsimp only
  rw [hcross]
  rfl

/-- A PUT answered OK with its resulting set in force, before any grant. -/
abbrev putApplied (pairs : List (CfgKey × Value)) (s : State) : State :=
  { answered (.put pairs) { ok := true, fields := [] } s with cfg := applyPairs s.cfg pairs }

theorem exec_put (hne : pairs ≠ []) (ht : taken (.put pairs) s) (hp : putRefusal s pairs = none) :
    exec (.put pairs) s = .next (if s.cfg.plant.pmax < (applyPairs s.cfg pairs).plant.pmax
      then evaluateGrants (putApplied pairs s) else putApplied pairs s) := by
  have hr : interfaceRefusal (.put pairs) = none := by
    cases pairs with
    | nil => exact absurd rfl hne
    | cons => rfl
  have hp' : putRefusal { s with line := lineTaking (.put pairs) s.line } pairs = none := hp
  have hserved : exec (.put pairs) s = _ := request_served ht hr
  rw [hserved, putAt, hp']
  dsimp only
  rw [answer_taking]
  rfl

/-- A PUT that does not raise PMAX (R101). -/
theorem exec_put_kept (hne : pairs ≠ []) (ht : taken (.put pairs) s) (hp : putRefusal s pairs = none)
    (hle : (applyPairs s.cfg pairs).plant.pmax ≤ s.cfg.plant.pmax) :
    exec (.put pairs) s = .next (putApplied pairs s) := by
  rw [exec_put hne ht hp, if_neg (Nat.not_lt.2 hle)]

/-- A PUT that raises PMAX (R101). -/
theorem exec_put_raised (hne : pairs ≠ []) (ht : taken (.put pairs) s) (hp : putRefusal s pairs = none)
    (hlt : s.cfg.plant.pmax < (applyPairs s.cfg pairs).plant.pmax) :
    exec (.put pairs) s = .next (evaluateGrants (putApplied pairs s)) := by
  rw [exec_put hne ht hp, if_pos hlt]

/-- Only a pair of PMAX moves it. -/
theorem pmax_setItem {c : Cfg} (ha : accepts k v = true) (hk : k ≠ .plant .pmax) :
    (setItem c k v).plant.pmax = c.plant.pmax := by
  have h := getPlantItem_setItem ha c .pmax
  rw [if_neg hk] at h
  exact Value.num.inj h

end Pairs

/-! ## PMAX -/

section Pmax

variable {s : State} {v : Nat}

theorem putRefusal_pmax (h1 : 1 ≤ v) (h3 : v ≤ 3) (hs : s.store.saving = false) :
    putRefusal s [(.plant .pmax, .num v)] = none := by
  have ha : accepts (.plant .pmax) (.num v) = true := by simp [accepts, within, plantRange, h1, h3]
  refine putRefusal_eq_none hs (List.forall_mem_singleton.2 ha) (fun n w hw => ?_) (List.forall_mem_singleton.2 rfl)
  cases List.mem_singleton.1 hw

/-- An evaluation under a raised PMAX moves strands, the arbiter and the alarm alone, and ends with a condition of R100
failing (R101, R103). -/
theorem evaluateGrants_raised (s : State) : (evaluateGrants s).cfg = s.cfg
    ∧ ¬ ((evaluateGrants s).mon.state = .normal ∧ (evaluateGrants s).arb.holders.length < s.cfg.plant.pmax
      ∧ (evaluateGrants s).arb.spacing = none ∧ (evaluateGrants s).arb.queue ≠ []) := by
  have hcfg : (evaluateGrants s).cfg = s.cfg := by rw [evaluateGrants_rest s]
  refine ⟨hcfg, fun hc => ?_⟩
  rw [← hcfg] at hc
  exact Bool.false_ne_true ((evaluateGrants_ends s).symm.trans ((canGrant_iff _).2 hc))

end Pmax

/-- Settles O46: one pair and PMAX alone are PUTs whose resulting set is one `setItem`. -/
theorem acceptedPutsAreApplied : Obligations.AcceptedPutsAreApplied := by
  refine ⟨fun k v s ht hs ha hx hk hi => ?_, fun v s h1 h3 ht hs => ?_, fun pairs s hne ht hs ha hi => ?_⟩
  · have hp : putRefusal s [(k, v)] = none := by
      refine putRefusal_eq_none hs (List.forall_mem_singleton.2 ha) (fun n w hw => hi n ?_) (List.forall_mem_singleton.2 hx)
      obtain ⟨hn, -⟩ := Prod.mk.inj (List.mem_singleton.1 hw)
      exact hn.symm
    refine ⟨_, exec_put_kept nofun ht hp (pmax_setItem ha hk).le, rfl, ?_, fun j hj => ?_⟩
    · exact (getItem_setItem ha s.cfg k).trans (if_pos rfl)
    · exact (getItem_setItem ha s.cfg j).trans (if_neg hj.symm)
  · have hp := putRefusal_pmax h1 h3 hs
    obtain hle | hlt := le_or_gt v s.cfg.plant.pmax
    · exact ⟨_, exec_put_kept nofun ht hp hle, rfl, rfl, fun _ => rfl, fun hlt => absurd hlt (Nat.not_lt.2 hle)⟩
    · obtain ⟨hcfg, hends⟩ := evaluateGrants_raised (putApplied [(.plant .pmax, .num v)] s)
      refine ⟨_, exec_put_raised nofun ht hp hlt, hcfg, ?_, fun hle => absurd hlt (Nat.not_lt.2 hle),
        fun _ => ⟨exec_grantEvaluation ht.1, hends⟩⟩
      rw [hcfg]
      exact evaluateGrants_rest _
  · refine ⟨applyPairs s.cfg pairs, fun k hk => getItem_applyPairs_unnamed ha hk s.cfg, ?_, fun hx => ?_⟩
    · rintro before k v after rfl hk
      exact getItem_applyPairs_last ha hk s.cfg
    · have hp := putRefusal_eq_none hs ha hi hx
      refine ⟨exec_put_kept hne ht hp, fun hlt => ?_⟩
      exact (exec_put_raised hne ht hp hlt).trans (exec_grantEvaluation (s := putApplied pairs s) ht.1).symm

end Sys2Proof.Machine
end

section
/-! PROOF. Samples of the car lines that take no rising edge, and a seating in NO_CHANGE (R111, R112, R120). -/

namespace Sys2Proof.Machine

open Sys2Proof

section Lines

variable {s : State}

/-- A sample that takes no rising edge of its line: the third sample in a row away from the taken level is taken, every
other leaves the level and counts (R111, R112). -/
theorem lineStep_noRise {x taken : Bool} {run : Nat} (h : ¬ (x = true ∧ taken = false ∧ 2 ≤ run)) :
    lineStep x taken run = ⟨if 2 ≤ run then x else taken, if x = taken ∨ 2 ≤ run then 0 else run + 1, false⟩ := by
  by_cases hx : x = taken
  · subst hx
    simp [lineStep]
  · by_cases hr : 2 ≤ run
    · have hfalls : x = false := by
        cases x
        · rfl
        · exact absurd ⟨rfl, Bool.eq_false_iff.2 (Ne.symm hx), hr⟩ h
      rw [lineStep, if_neg hx, if_neg (by omega), if_pos hr, if_pos (.inr hr), hfalls]
    · rw [lineStep, if_neg hx, if_pos (by omega), if_neg hr, if_neg (by simp [hx, hr])]

/-- Settles O31: without a rising edge a sample is its count alone, and a seating in NO_CHANGE is the record that
`raisePlant` makes. -/
theorem carLinesOutsideAChange : Obligations.CarLinesOutsideAChange := by
  refine ⟨fun a b f s h ha hb => ?_, fun f s h hc hs hr => ?_⟩
  · refine (exec_carLines (k := s.coord) h a b f).trans ?_
    rw [sampleCar_withCoord (lineStep_noRise ha) (lineStep_noRise hb)]
    cases f <;> rfl
  · refine (exec_onlySeated (k := s.coord) h hs hr).trans ?_
    rw [seatedEdge_noChange (k := sampledCoord _ _ s.coord) hc hc, raisePlant, hc]
    rfl

end Lines

end Sys2Proof.Machine
end

section
/-! SUPPORT. Laws 11 and 12 at one strand (R126, R145): each lets a strand stand only aside from a restart and from CAST, and
every operation but those that bring a strand back keeps it there. -/

namespace Sys2Proof.Machine

open Sys2Proof

/-! ## The two laws at one strand -/

/-- Law 11 at one strand (R145). -/
abbrev outInDip (c : Ctx) : Prop :=
  c.state = .idle ∨ c.state = .frozen ∨ c.state = .stopping ∨ c.state = .tripped

/-- Law 12 at one strand (R126). -/
abbrev outInChange (c : Ctx) : Prop :=
  c.state = .idle ∨ c.state = .tripped ∨ c.state = .stopping ∨ c.state = .change
    ∨ (c.state = .frozen ∧ c.freezeReturn = some .change)

/-- What Laws 11 and 12 share: a law of a context's state and freeze_return that none of the six running states of R23 meets,
and that is met in IDLE, TRIPPED, STOPPING and in FROZEN with freeze_return CHANGE. -/
structure AsideLaw (P : Ctx → Prop) : Prop where
  congr  : ∀ {c c' : Ctx}, c'.state = c.state → c'.freezeReturn = c.freezeReturn → P c → P c'
  stands : ∀ {c : Ctx}, P c → ¬ runsOn c
  parked : ∀ {c : Ctx}, outInDip c → outInChange c → P c

theorem outInDip_aside : AsideLaw outInDip where
  congr hs _ h := by rwa [outInDip, hs]
  stands := by rintro c (h | h | h | h) <;> simp [runsOn, h]
  parked h _ := h

theorem outInChange_aside : AsideLaw outInChange where
  congr hs hf h := by rwa [outInChange, hs, hf]
  stands := by rintro c (h | h | h | h | ⟨h, -⟩) <;> simp [runsOn, h]
  parked _ h := h

/-! ## Changes of a context that keep it aside -/

/-- `c'` meets every such law that `c` meets. -/
def KeepsAside (c c' : Ctx) : Prop := ∀ P, AsideLaw P → P c → P c'

section Contexts

variable {c d e : Ctx}

protected theorem KeepsAside.refl (c : Ctx) : KeepsAside c c := fun _ _ => id

protected theorem KeepsAside.trans (h : KeepsAside c d) (k : KeepsAside d e) : KeepsAside c e :=
  fun P hP hc => k P hP (h P hP hc)

theorem KeepsAside.same (hs : d.state = c.state) (hf : d.freezeReturn = c.freezeReturn) : KeepsAside c d :=
  fun _ hP => hP.congr hs hf

theorem KeepsAside.of_runsOn (h : runsOn c) : KeepsAside c d := fun _ hP hc => absurd h (hP.stands hc)

theorem KeepsAside.idle (h : d.state = .idle) : KeepsAside c d := fun _ hP _ => hP.parked (.inl h) (.inl h)

theorem KeepsAside.tripped (h : d.state = .tripped) : KeepsAside c d :=
  fun _ hP _ => hP.parked (.inr (.inr (.inr h))) (.inr (.inl h))

theorem KeepsAside.stopping (h : d.state = .stopping) : KeepsAside c d :=
  fun _ hP _ => hP.parked (.inr (.inr (.inl h))) (.inr (.inr (.inl h)))

theorem KeepsAside.frozenInChange (h : d.state = .frozen) (hf : d.freezeReturn = some .change) : KeepsAside c d :=
  fun _ hP _ => hP.parked (.inr (.inl h)) (.inr (.inr (.inr (.inr ⟨h, hf⟩))))

end Contexts

theorem runsOn_of_holdReturnOf {c : Ctx} {g : HoldReturn} (h : holdReturnOf c.state = some g) : runsOn c := by
  rw [runsOn, ← holdReturnOf_eq_some.1 h]
  cases g <;> simp [holdState]

theorem StageMove.keepsAside {b b' : Block} (h : StageMove b b') : KeepsAside b.ctx b'.ctx := by
  cases h with
  | notes | slot => exact .same rfl rfl
  | dwell h => exact .of_runsOn (.inl h)
  | wait _ h => exact .of_runsOn (h.imp_right .inl)
  | hold g h => exact .of_runsOn (runsOn_of_holdReturnOf h)
  | trip => exact .tripped rfl
  | cast _ h => exact .of_runsOn (.inr (.inr (.inr (.inl h))))

theorem takeLevel_freezeReturn (level : Option Nat) (c : Ctx) : (takeLevel level c).freezeReturn = c.freezeReturn := by
  unfold takeLevel
  split <;> rfl

theorem openedCtx_freezeReturn (g : StrandCfg) (r : Reading) (c : Ctx) :
    (openedCtx g r c).freezeReturn = c.freezeReturn := by
  rw [openedCtx, takeLevel_freezeReturn]
  split <;> rfl

theorem loopStep_freezeReturn (g : StrandCfg) (r : Reading) (c : Ctx) :
    (loopStep g r c).freezeReturn = c.freezeReturn := by
  unfold loopStep
  split <;> rfl

/-! ## Operations of one strand -/

section Strand

variable {n : Strand} {s t : State}

theorem StrandRun.keepsAside (h : StrandRun StageMove n s t) : KeepsAside (ctxOf s n) (ctxOf t n) :=
  fun P hP => h.keeps (Q := fun b => P b.ctx) (fun _ _ hm => hm.keepsAside P hP) fun _ _ => id

theorem SpeedStep.keepsAside (h : SpeedStep n s t) : KeepsAside (ctxOf s n) (ctxOf t n) := by
  obtain rfl | ⟨y, slot, -, -, -, -, rfl⟩ := h
  · exact .refl _
  · rw [ctxOf_mapCtx]
    exact .same rfl rfl

theorem openPeriod_keepsAside (r : Reading) : KeepsAside (ctxOf s n) (ctxOf (openPeriod n r s) n) := by
  rw [ctxOf_openPeriod]
  exact .same (openedCtx_fields _ r _).1 (openedCtx_freezeReturn _ r _)

theorem closePeriod_keepsAside (r : Reading) : KeepsAside (ctxOf s n) (ctxOf (closePeriod n r s) n) := by
  have hstop : KeepsAside (ctxOf s n) (ctxOf (stopTest n r s) n) := by
    unfold stopTest
    split
    · refine .idle ?_
      rw [enterIdle, ctxOf_mapBlock]
      rfl
    · exact .refl _
  refine hstop.trans (.same ?_ ?_) <;> unfold closePeriod levelStage driveOutputs <;>
    rw [ctxOf_mapBlock, ← ctxOf, ctxOf_mapCtx]
  · exact loopStep_state _ r _
  · exact loopStep_freezeReturn _ r _

/-- A control period (R8): only STOPPING ends, in IDLE, and a TRIP action can be taken. -/
theorem periodOn_keepsAside (n : Strand) (r : Reading) (s : State) :
    KeepsAside (ctxOf s n) (ctxOf (periodOn n r s) n) := by
  obtain ⟨m, u, w, hm, hu, hw, h⟩ := periodOn_cases n r s
  have run := (((openPeriod_keepsAside r).trans hm.keepsAside).trans hu.keepsAside).trans hw.keepsAside
  obtain h | ⟨h, -⟩ := h <;> rw [h]
  · exact run.trans (closePeriod_keepsAside r)
  · exact run

theorem enterStopping_keepsAside : KeepsAside (ctxOf s n) (ctxOf (enterStopping n s) n) :=
  .stopping (by rw [ctxOf, enterStopping_block]; rfl)

theorem applyAction_keepsAside (a : Action) : KeepsAside (ctxOf s n) (ctxOf (applyAction n a s) n) := by
  obtain h | ⟨h, -⟩ | ⟨h, -⟩ | ⟨h, -⟩ := applyAction_cases n s a <;> rw [h]
  · exact .refl _
  · exact .tripped (by rw [ctxOf, enterTripped_block]; rfl)
  · exact (holdStrand_run n s).keepsAside
  · exact enterStopping_keepsAside

theorem strandGrant_keepsAside : KeepsAside (ctxOf s n) (ctxOf (strandGrant n s) n) := by
  by_cases h : (ctxOf s n).state = .waitPermit
  · exact .of_runsOn (.inr (.inr (.inl h)))
  · rw [strandGrant, if_neg h]
    exact .refl _

theorem overrunAt_keepsAside : KeepsAside (ctxOf s n) (ctxOf (overrunAt n s) n) := by
  unfold overrunAt
  split
  · have h := applyAction_keepsAside (n := n) (s := raise n .changeOverrun s) (actionOf s.cfg .changeOverrun)
    rwa [ctxOf_raise] at h
  · exact .refl _

theorem outageAt_keepsAside : KeepsAside (ctxOf s n) (ctxOf (outageAt n s) n) := by
  unfold outageAt
  split
  · have h := applyAction_keepsAside (n := n) (s := raise n .supplyLost s) (actionOf s.cfg .supplyLost)
    rwa [ctxOf_raise] at h
  · exact .refl _

theorem stopStrand_keepsAside : KeepsAside (ctxOf s n) (ctxOf (stopStrand n s) n) := by
  unfold stopStrand
  split
  · exact enterStopping_keepsAside
  · exact .refl _

theorem releaseTrip_keepsAside : KeepsAside (ctxOf s n) (ctxOf (releaseTrip n s) n) := by
  refine .idle ?_
  rw [releaseTrip, ctxOf_mapBlock, enterIdle, mapBlock_same]
  rfl

/-! ## The freeze and the change at one strand -/

/-- Every strand is aside after a freeze (R25). -/
theorem freezeStrand_outInDip : outInDip (ctxOf (freezeStrand n s) n) := by
  unfold freezeStrand
  split
  · rw [ctxOf_mapCtx]
    exact .inr (.inl rfl)
  · rename_i h
    cases hs : (ctxOf s n).state <;> simp [hs, freezeReturnOf, outInDip] at h ⊢

theorem freezeStrand_keepsAside : KeepsAside (ctxOf s n) (ctxOf (freezeStrand n s) n) := by
  unfold freezeStrand
  split
  · rename_i f h
    rw [ctxOf_mapCtx]
    by_cases hf : f = .change
    · exact .frozenInChange rfl (congrArg some hf)
    · refine .of_runsOn ?_
      rw [runsOn, ← freezeReturnOf_eq_some.1 h]
      cases f <;> simp [freezeState] at hf ⊢
  · exact .refl _

/-- What change begin finds at a strand (R113, R115). -/
theorem changeBegin_cases (c : Ctx) :
    runsOn c ∨ (c.state = .frozen ∧ c.freezeReturn ≠ some .change) ∨ outInChange c := by
  by_cases hf : c.freezeReturn = some .change <;> cases hs : c.state <;> simp [runsOn, outInChange, hs, hf]

theorem changeBeginAt_outside (h : outInChange (ctxOf s n)) : changeBeginAt n s = s := by
  obtain h | h | h | h | h := h
  exacts [changeBeginAt_none (.inl h), changeBeginAt_none (.inr (.inr (.inl h))), changeBeginAt_none (.inr (.inl h)),
    changeBeginAt_none (.inr (.inr (.inr (.inl h)))), changeBeginAt_none (.inr (.inr (.inr (.inr h))))]

theorem ctxOf_rewriteToChange (n : Strand) (s : State) :
    ctxOf (rewriteToChange n s) n = { joinChange (ctxOf s n) with freezeReturn := some .change } := ctxOf_mapBlock n _ s

/-- Every strand is a party to the change, or outside it, once the change has begun (R126). -/
theorem changeBeginAt_outInChange : outInChange (ctxOf (changeBeginAt n s) n) := by
  obtain h | ⟨h, hf⟩ | h := changeBegin_cases (ctxOf s n)
  · rw [changeBeginAt_enters h, ctxOf, enterChange_block]
    exact .inr (.inr (.inr (.inl rfl)))
  · rw [changeBeginAt_rewrites h hf, ctxOf_rewriteToChange]
    exact .inr (.inr (.inr (.inr ⟨h, rfl⟩)))
  · rwa [changeBeginAt_outside h]

theorem changeBeginAt_keepsAside : KeepsAside (ctxOf s n) (ctxOf (changeBeginAt n s) n) := by
  obtain h | ⟨h, hf⟩ | h := changeBegin_cases (ctxOf s n)
  · exact .of_runsOn h
  · rw [changeBeginAt_rewrites h hf, ctxOf_rewriteToChange]
    exact .frozenInChange h rfl
  · rw [changeBeginAt_outside h]
    exact .refl _

/-- A FROZEN strand stays FROZEN where a new tundish is seated (R119). -/
theorem seatedAt_outInDip (h : outInDip (ctxOf s n)) : outInDip (ctxOf (seatedAt n s) n) := by
  unfold seatedAt
  split
  · rename_i hst
    obtain ⟨r, hb, -⟩ := beginTundish_begun (s := s) (t := s) rfl rfl rfl hst
    have hne : (ctxOf s n).state ≠ .change := by
      obtain h | h | h | h := h <;> simp [h]
    rw [ctxOf, hb]
    exact .inr (.inl (if_neg hne))
  · exact h

/-- A FROZEN strand with freeze_return CHANGE recovers into CHANGE (R139). -/
theorem recoverAt_outInChange (measured : Vector Nat 6) (h : outInChange (ctxOf s n)) :
    outInChange (ctxOf (recoverAt measured n s) n) := by
  unfold recoverAt
  split
  · rename_i f hs hf
    obtain rfl : f = .change := by simpa [outInChange, hs, hf] using h
    dsimp only [recoverInto, setHoldReturn, thawTo]
    rw [ctxOf_mapCtx, ctxOf_mapCtx]
    exact .inr (.inr (.inr (.inl rfl)))
  · exact h

end Strand

end Sys2Proof.Machine
end

section
/-! PROOF. Laws 11 and 12 and the laws of the timers at every step (R110, R121, R126 to R137, R145): every event is made of
operations that keep a strand aside, and of the few changes of monitor and coordinator. -/

namespace Sys2Proof.Machine

open Sys2Proof

/-! ## The four laws from one state to another -/

/-- Laws 11 and 12, and the laws of monitor and coordinator, go over from `s` to `t`. -/
structure LawsStep (s t : State) : Prop where
  supply      : supplyLaw s → supplyLaw t
  change      : changeLaw s → changeLaw t
  monitor     : monitorLaw s → monitorLaw t
  coordinator : coordinatorLaw s → coordinatorLaw t

section Rules

variable {n : Strand} {s t u : State}

protected theorem LawsStep.refl (s : State) : LawsStep s s := ⟨id, id, id, id⟩

protected theorem LawsStep.trans (h : LawsStep s t) (k : LawsStep t u) : LawsStep s u :=
  ⟨k.supply ∘ h.supply, k.change ∘ h.change, k.monitor ∘ h.monitor, k.coordinator ∘ h.coordinator⟩

/-- A change of monitor and coordinator that neither leaves NORMAL nor enters CHANGING, the contexts standing. -/
theorem LawsStep.still (hc : ∀ n : Strand, ctxOf t n = ctxOf s n) (hs : s.mon.state = .normal → t.mon.state = .normal)
    (hk : t.coord.state = .changing → s.coord.state = .changing) (hm : monitorLaw s → monitorLaw t)
    (hl : coordinatorLaw s → coordinatorLaw t) : LawsStep s t where
  supply h ht n := by
    rw [hc]
    exact h (mt hs ht) n
  change h ht n := by
    rw [hc]
    exact h (hk ht) n
  monitor := hm
  coordinator := hl

/-- A change that leaves contexts, monitor and coordinator, and after which the part runs only if it ran. -/
theorem LawsStep.other (hc : ∀ n : Strand, ctxOf t n = ctxOf s n) (hm : t.mon = s.mon) (hk : t.coord = s.coord)
    (hp : t.phase = .running → s.phase = .running) : LawsStep s t := by
  refine .still hc (by rw [hm]; exact id) (by rw [hk]; exact id) (by rw [monitorLaw, monitorLaw, hm]; exact id) ?_
  rintro ⟨hw, hr, hb, hn⟩
  rw [coordinatorLaw, hk]
  exact ⟨hw, hr ∘ hp, hb, hn⟩

/-- An operation of one strand that keeps Law 11 at it away from NORMAL, and Law 12 in CHANGING. -/
theorem StrandOnly.lawsStep_of (ho : StrandOnly n s t)
    (hs : s.mon.state ≠ .normal → outInDip (ctxOf s n) → outInDip (ctxOf t n))
    (hk : s.coord.state = .changing → outInChange (ctxOf s n) → outInChange (ctxOf t n)) : LawsStep s t := by
  have other {m : Strand} (hm : m ≠ n) : ctxOf t m = ctxOf s m := congrArg Block.ctx (ho.others m hm)
  refine ⟨fun h ht m => ?_, fun h ht m => ?_, ?_, ?_⟩
  · rw [ho.mon] at ht
    by_cases hm : m = n
    · exact hm ▸ hs ht (h ht n)
    · rw [other hm]
      exact h ht m
  · rw [ho.coord] at ht
    by_cases hm : m = n
    · exact hm ▸ hk ht (h ht n)
    · rw [other hm]
      exact h ht m
  · rw [monitorLaw, monitorLaw, ho.mon]
    exact id
  · rw [coordinatorLaw, coordinatorLaw, ho.coord, ho.phase]
    exact id

/-- An operation of one strand that keeps it aside. -/
theorem StrandOnly.lawsStep (ho : StrandOnly n s t) (h : KeepsAside (ctxOf s n) (ctxOf t n)) : LawsStep s t :=
  ho.lawsStep_of (fun _ => h _ outInDip_aside) fun _ => h _ outInChange_aside

/-- What each part of an event leaves of its own strand's context, whatever it finds, the event leaves. -/
theorem forEach_ctx {f : Strand → State → State} {P : Ctx → Prop} (ho : ∀ m u, StrandOnly m u (f m u))
    (h : ∀ u, P (ctxOf (f n u) n)) (s : State) : P (ctxOf (forEach f s) n) :=
  forEach_block ho (Q := fun b => P b.ctx) fun u _ _ => h u

theorem forEach_lawsStep {f : Strand → State → State} (ho : ∀ m u, StrandOnly m u (f m u))
    (hf : ∀ m u, KeepsAside (ctxOf u m) (ctxOf (f m u) m)) (s : State) : LawsStep s (forEach f s) :=
  forEach_keeps (P := LawsStep s) (fun m u h => h.trans ((ho m u).lawsStep (hf m u))) (.refl s)

/-- The same where each part takes the laws over in states whose monitor and coordinator are as in `s`. -/
theorem forEach_lawsStep_of {f : Strand → State → State} (ho : ∀ m u, StrandOnly m u (f m u)) {s : State}
    (hf : ∀ m u, u.mon = s.mon → u.coord = s.coord → LawsStep u (f m u)) : LawsStep s (forEach f s) := by
  have part (m : Strand) (u : State) : u.mon = s.mon ∧ u.coord = s.coord ∧ LawsStep s u →
      (f m u).mon = s.mon ∧ (f m u).coord = s.coord ∧ LawsStep s (f m u) := by
    rintro ⟨hm, hk, h⟩
    exact ⟨(ho m u).mon.trans hm, (ho m u).coord.trans hk, h.trans (hf m u hm hk)⟩
  obtain ⟨-, -, h⟩ := forEach_keeps part ⟨rfl, rfl, .refl s⟩
  exact h

theorem whenRunning_lawsStep {f : State → State} (h : LawsStep s (f s)) : LawsStep s (whenRunning f s) := by
  unfold whenRunning
  split
  · exact h
  · exact .refl s

end Rules

/-! ## Grants and records -/

section Events

variable {s : State}

theorem raisePlant_lawsStep (k : Kind) (affected : List Strand) (s : State) : LawsStep s (raisePlant k affected s) :=
  .other (fun _ => rfl) rfl rfl id

theorem evaluateGrants_lawsStep (s : State) : LawsStep s (evaluateGrants s) := by
  refine evaluateGrants_keeps (P := LawsStep s) (fun u _ h => h.trans ?_) (.refl s)
  unfold grantHead
  split
  · exact .refl u
  · have harb (m : Strand) (rest : List QEntry) : LawsStep u (arbiterGrant m rest u) := .other (fun _ => rfl) rfl rfl id
    exact (harb _ _).trans ((strandGrant_only _ _).lawsStep strandGrant_keepsAside)

theorem spacingExpires_lawsStep (s : State) : LawsStep s (spacingExpires s) := by
  have stopped : LawsStep s { s with arb := { s.arb with spacing := none } } := .other (fun _ => rfl) rfl rfl id
  unfold spacingExpires
  split
  · exact stopped.trans (evaluateGrants_lawsStep _)
  · exact .refl s

/-! ## The Change Coordinator -/

theorem lineStep_run_le (x taken : Bool) (run : Nat) : (lineStep x taken run).run ≤ 2 := by
  unfold lineStep
  split
  · exact Nat.zero_le 2
  · split
    · dsimp only
      omega
    · exact Nat.zero_le 2

theorem isSome_tenLess (t : Option Nat) : (tenLess t).isSome = t.isSome := Option.isSome_map

/-- A sample of both lines counts, and takes 10 ms off the window (R111, R121). -/
theorem sampleLines_lawsStep {b w : LineStep} (hb : b.run ≤ 2) (hw : w.run ≤ 2) (s : State) :
    LawsStep s (sampleLines b w s) := by
  refine .still (fun _ => rfl) id id id ?_
  rintro ⟨hno, hch, -, -⟩
  exact ⟨fun h => congrArg tenLess (hno h), fun hp h => (isSome_tenLess _).trans (hch hp h), hb, hw⟩

/-- Change begin takes every strand aside before the coordinator is in CHANGING (R113, R126). -/
theorem beginEdge_lawsStep (s : State) : LawsStep s (beginEdge s) := by
  cases h : s.coord.state with
  | changing =>
    rw [show beginEdge s = s from beginEdge_changing (k := s.coord) h]
    exact .refl s
  | noChange =>
    rw [show beginEdge s = _ from beginEdge_noChange (s := s) (k := s.coord) h]
    have strands := forEach_lawsStep changeBeginAt_only (fun _ _ => changeBeginAt_keepsAside) s
    have parties (n : Strand) : outInChange (ctxOf (forEach changeBeginAt s) n) :=
      forEach_ctx (P := outInChange) changeBeginAt_only (fun _ => changeBeginAt_outInChange) s
    generalize forEach changeBeginAt s = u at strands parties
    refine ⟨strands.supply, fun _ _ => parties, strands.monitor, fun hl => ?_⟩
    obtain ⟨-, -, hb, hw⟩ := hl
    exact ⟨nofun, fun _ _ => rfl, hb, hw⟩

/-- The end of a change stops the window (R118, R122). -/
theorem endChange_lawsStep (s : State) :
    LawsStep s { s with coord := { s.coord with state := .noChange, window := none } } := by
  refine .still (fun _ => rfl) id nofun id ?_
  rintro ⟨-, -, hb, hw⟩
  exact ⟨fun _ => rfl, nofun, hb, hw⟩

theorem seatedEdge_lawsStep (s : State) : LawsStep s (seatedEdge s) := by
  unfold seatedEdge
  split
  · refine (endChange_lawsStep s).trans (forEach_lawsStep_of seatedAt_only fun m u _ hk => ?_)
    exact (seatedAt_only m u).lawsStep_of (fun _ => seatedAt_outInDip) fun hc => nomatch (congrArg _ hk).symm.trans hc
  · exact raisePlant_lawsStep _ _ s

theorem onEdge_lawsStep {edge : State → State} (h : ∀ u, LawsStep u (edge u)) (b : Bool) (s : State) :
    LawsStep s (onEdge b edge s) := by
  unfold onEdge
  split
  · exact h s
  · exact .refl s

theorem sampleCar_lawsStep (b w first : Bool) (s : State) : LawsStep s (sampleCar b w first s) := by
  have beginning := onEdge_lawsStep beginEdge_lawsStep
  have seating := onEdge_lawsStep seatedEdge_lawsStep
  have lines := sampleLines_lawsStep (lineStep_run_le b s.coord.takenBegin s.coord.runBegin)
    (lineStep_run_le w s.coord.takenSeated s.coord.runSeated) s
  unfold sampleCar
  dsimp only
  split
  · exact lines.trans ((seating _ _).trans (beginning _ _))
  · exact lines.trans ((beginning _ _).trans (seating _ _))

theorem windowExpires_lawsStep (s : State) : LawsStep s (windowExpires s) := by
  unfold windowExpires
  split
  · exact (endChange_lawsStep s).trans (forEach_lawsStep overrunAt_only (fun _ _ => overrunAt_keepsAside) _)
  · exact .refl s

/-! ## The Supply Monitor -/

theorem lowCount_le (vdip v low : Nat) : lowCount vdip v low ≤ 2 := by
  unfold lowCount
  split
  · exact Nat.min_le_right _ _
  · exact Nat.zero_le 2

/-- A change of the monitor alone that does not leave NORMAL. -/
theorem LawsStep.ofMonitor {m : Monitor} (hs : s.mon.state = .normal → m.state = .normal)
    (hm : monitorLaw s → monitorLaw { s with mon := m }) : LawsStep s { s with mon := m } :=
  .still (fun _ => rfl) hs id hm id

theorem readVolts_lawsStep (v : Nat) (s : State) : LawsStep s (readVolts (limitVolts v) s) := by
  refine .ofMonitor id ?_
  rintro ⟨hride, hsettle, -, -⟩
  refine ⟨(isSome_tenLess _).symm ▸ hride, ?_, lowCount_le _ _ _, Nat.min_le_right _ _⟩
  dsimp only
  split
  · exact hsettle
  · exact (isSome_tenLess _).symm ▸ hsettle

theorem startSettle_lawsStep {cut : Bool} {m : MonitorState} (h : (s.mon.state = .outage ∧ m = .outage)
    ∨ ((s.mon.state = .dip ∨ s.mon.state = .settling) ∧ m = .settling)) : LawsStep s (startSettle cut m s) := by
  refine .ofMonitor (fun hn => by simp [hn] at h) ?_
  rintro ⟨hride, -, hlow, hsample⟩
  refine ⟨hride.trans ?_, iff_of_true rfl ?_, hlow, hsample⟩
  · obtain ⟨h, rfl⟩ | ⟨h, rfl⟩ := h
    · simp [h]
    · exact iff_of_true h (.inr rfl)
  · exact h.elim (fun h => .inr h.2) fun h => .inl h.2

theorem stopSettle_dip_lawsStep (h : s.mon.state = .settling) : LawsStep s (stopSettle .dip s) := by
  refine .ofMonitor (fun hn => nomatch h.symm.trans hn) ?_
  rintro ⟨hride, -, hlow, hsample⟩
  exact ⟨iff_of_true (hride.2 (.inr h)) (.inl rfl), iff_of_false nofun nofun, hlow, hsample⟩

/-- The monitor in NORMAL with both timers stopped (R133, R136). -/
theorem stopSettle_normal_lawsStep (h : s.mon.ride = none ∨ s.mon.state = .outage) :
    LawsStep s (stopSettle .normal s) := by
  refine .ofMonitor (fun _ => rfl) ?_
  rintro ⟨hride, -, hlow, hsample⟩
  refine ⟨iff_of_false (fun hr => ?_) nofun, iff_of_false nofun nofun, hlow, hsample⟩
  obtain h | h := h
  · exact nomatch (congrArg _ h).symm.trans hr
  · simpa [h] using hride.1 hr

/-- The fall from NORMAL takes every strand aside (R25, R129, R145). -/
theorem enterDip_lawsStep (h : s.mon.state = .normal) : LawsStep s (enterDip s) := by
  unfold enterDip
  generalize hu : raisePlant .supplyDip [] _ = u
  have hctx (n : Strand) : ctxOf u n = ctxOf s n := by rw [← hu]; rfl
  have strands := forEach_lawsStep freezeStrand_only (fun _ _ => freezeStrand_keepsAside) u
  have aside (n : Strand) : outInDip (ctxOf (forEach freezeStrand u) n) :=
    forEach_ctx (P := outInDip) freezeStrand_only (fun _ => freezeStrand_outInDip) u
  generalize forEach freezeStrand u = v at strands aside
  refine ⟨fun _ _ => aside, fun hc => strands.change ?_, fun hm => strands.monitor ?_, fun hk => strands.coordinator ?_⟩
  · intro ht n
    rw [hctx]
    exact hc (by rw [← hu] at ht; exact ht) n
  · obtain ⟨-, hsettle, hlow, hsample⟩ := hm
    rw [← hu]
    refine ⟨iff_of_true rfl (.inl rfl), iff_of_false (fun hs => ?_) nofun, hlow, hsample⟩
    simpa [h] using hsettle.1 hs
  · rw [← hu]
    exact hk

theorem handleVolts_lawsStep (s : State) : LawsStep s (handleVolts s) := by
  unfold handleVolts
  dsimp only
  split
  case h_1 h =>
    split
    · exact enterDip_lawsStep h
    · exact .refl s
  case h_2 h =>
    split
    · exact startSettle_lawsStep (.inr ⟨.inl h, rfl⟩)
    · exact .refl s
  case h_3 h =>
    split
    · exact .refl s
    · split
      · exact stopSettle_dip_lawsStep h
      · exact startSettle_lawsStep (.inr ⟨.inr h, rfl⟩)
  case h_4 h =>
    split
    · exact .refl s
    · exact startSettle_lawsStep (.inl ⟨h, rfl⟩)

/-- The recoveries come once the monitor is in NORMAL, and leave a party to a change in CHANGE (R133, R139). -/
theorem settleExpires_lawsStep (measured : Vector Nat 6) (s : State) : LawsStep s (settleExpires measured s) := by
  obtain h | ⟨-, -, hst, h⟩ | ⟨-, -, hst, h⟩ := settleExpires_cases measured s <;> rw [h]
  · exact .refl s
  · have normal : LawsStep s (stopSettle .normal { s with mon := { s.mon with ride := none } }) := by
      refine .ofMonitor (fun _ => rfl) ?_
      rintro ⟨-, -, hlow, hsample⟩
      exact ⟨iff_of_false nofun nofun, iff_of_false nofun nofun, hlow, hsample⟩
    refine (normal.trans (forEach_lawsStep_of (recoverAt_only · · measured) fun m u hm _ => ?_)).trans
      (evaluateGrants_lawsStep _)
    exact (recoverAt_only m u measured).lawsStep_of (fun hn => absurd (congrArg _ hm) hn)
      fun _ => recoverAt_outInChange measured
  · exact (stopSettle_normal_lawsStep (.inr hst)).trans (evaluateGrants_lawsStep _)

theorem rideExpires_lawsStep (s : State) : LawsStep s (rideExpires s) := by
  unfold rideExpires
  split
  · rename_i h
    have outage : LawsStep s (enterOutage s) := by
      refine .ofMonitor (fun hn => by simp [hn] at h) ?_
      rintro ⟨-, -, hlow, hsample⟩
      exact ⟨iff_of_false nofun nofun, iff_of_true rfl (.inr rfl), hlow, hsample⟩
    exact (outage.trans (forEach_lawsStep outageAt_only (fun _ _ => outageAt_keepsAside) _)).trans
      (raisePlant_lawsStep _ _ _)
  · exact .refl s

/-! ## Requests -/

theorem answer_lawsStep (r : Reply) (s : State) : LawsStep s (answer r s) := .other (fun _ => rfl) rfl rfl id

theorem line_lawsStep (l : Line) (s : State) : LawsStep s { s with line := l } := .other (fun _ => rfl) rfl rfl id

theorem receive_lawsStep (x : Option Nat) (s : State) : LawsStep s (receive x s) := by
  obtain ⟨l, h⟩ := receive_line x s
  rw [h]
  exact line_lawsStep l s

theorem foldl_receive_lawsStep (chars : Text) (s : State) :
    LawsStep s (chars.foldl (fun u x => receive (some x) u) s) := by
  induction chars generalizing s with
  | nil => exact .refl s
  | cons x xs ih => exact (receive_lawsStep _ s).trans (ih _)

theorem serve_lawsStep {r : Request} {act : State → State} (h : ∀ u, LawsStep u (act u)) (s : State) :
    LawsStep s (whenRunning (serve r act) s) := by
  refine whenRunning_lawsStep ?_
  unfold serve
  split
  · split
    · exact (line_lawsStep _ s).trans (answer_lawsStep _ _)
    · exact (line_lawsStep _ s).trans (h _)
  · exact line_lawsStep _ s

theorem writePlan_lawsStep (p : Nat) (f : Plan → Plan) (s : State) : LawsStep s (writePlan p f s) := by
  unfold writePlan
  split
  · exact answer_lawsStep _ s
  · split <;> exact .other (fun _ => rfl) rfl rfl id

theorem checkPlan_lawsStep (p : Nat) (s : State) : LawsStep s (checkPlan p s) := by
  unfold checkPlan
  split
  · exact answer_lawsStep _ s
  · split
    · exact answer_lawsStep _ s
    · split
      · exact answer_lawsStep _ s
      · exact answer_lawsStep _ s
      · split <;> exact .other (fun _ => rfl) rfl rfl id

theorem putAt_lawsStep (pairs : List (CfgKey × Value)) (s : State) : LawsStep s (putAt pairs s) := by
  have applied (c : Cfg) (u : State) : LawsStep u { u with cfg := c } := .other (fun _ => rfl) rfl rfl id
  unfold putAt applyPut
  split
  · exact answer_lawsStep _ s
  · refine (answer_lawsStep okPlain s).trans ?_
    dsimp only
    split
    · exact (applied _ _).trans (evaluateGrants_lawsStep _)
    · exact applied _ _

/-- BEG is accepted in NORMAL and NO_CHANGE alone (R33). -/
theorem begChecks_ok {n : Strand} {plan : Option Nat} {seated ready : Bool} {r : PlanRef}
    (h : begChecks s n plan seated ready = .ok r) : s.mon.state = .normal ∧ s.coord.state = .noChange := by
  unfold begChecks at h
  repeat' split at h
  all_goals cases h
  exact ⟨not_not.1 ‹¬ s.mon.state ≠ .normal›, not_not.1 ‹¬ s.coord.state ≠ .noChange›⟩

theorem begAt_lawsStep (k : Nat) (plan : Option Nat) (seated ready : Bool) (s : State) :
    LawsStep s (begAt k plan seated ready s) := by
  unfold begAt
  split
  · exact answer_lawsStep _ s
  · rename_i n _
    split
    · exact answer_lawsStep _ s
    · rename_i r h
      obtain ⟨hm, hk⟩ := begChecks_ok h
      have ho : StrandOnly n s (beginStart n r s) := (mapCtx_only n s _).trans (mapBlock_only n _ _)
      exact (ho.lawsStep_of (fun hn => absurd hm hn) fun hc => nomatch hk.symm.trans hc).trans (answer_lawsStep _ _)

theorem holdStrand_lawsStep (n : Strand) (s : State) : LawsStep s (holdStrand n s) :=
  (holdStrand_only n s).lawsStep (holdStrand_run n s).keepsAside

theorem stopStrand_lawsStep (n : Strand) (s : State) : LawsStep s (stopStrand n s) :=
  (stopStrand_only n s).lawsStep stopStrand_keepsAside

theorem hldAt_lawsStep (k : Nat) (s : State) : LawsStep s (hldAt k s) := by
  unfold hldAt
  split
  · exact answer_lawsStep _ s
  · split
    · exact (holdStrand_lawsStep _ s).trans (answer_lawsStep _ _)
    · exact answer_lawsStep _ s

theorem stpAt_lawsStep (k : Nat) (s : State) : LawsStep s (stpAt k s) := by
  unfold stpAt
  split
  · exact answer_lawsStep _ s
  · split
    · exact (stopStrand_lawsStep _ s).trans (answer_lawsStep _ _)
    · exact answer_lawsStep _ s

theorem answerUnless_lawsStep (b : Bool) (r : Reply) (s : State) : LawsStep s (answerUnless b r s) := by
  unfold answerUnless
  split
  · exact .refl s
  · exact answer_lawsStep r s

theorem hldAllAt_lawsStep (b : Bool) (s : State) : LawsStep s (hldAllAt b s) :=
  (forEach_lawsStep holdStrand_only (fun m u => (holdStrand_run m u).keepsAside) s).trans (answerUnless_lawsStep b _ _)

theorem stpAllAt_lawsStep (b : Bool) (s : State) : LawsStep s (stpAllAt b s) :=
  (forEach_lawsStep stopStrand_only (fun _ _ => stopStrand_keepsAside) s).trans (answerUnless_lawsStep b _ _)

/-- RES is accepted in HELD alone, where neither law lets a strand stand (R35). -/
theorem resAt_lawsStep (k : Nat) (plan : Option Nat) (s : State) : LawsStep s (resAt k plan s) := by
  unfold resAt
  split
  · exact answer_lawsStep _ s
  · split
    · rename_i hs _
      refine ((resumeStrand_only _ _ s).lawsStep (.of_runsOn ?_)).trans (answer_lawsStep _ _)
      exact .inr (.inr (.inr (.inr (.inr hs))))
    · exact answer_lawsStep _ s

theorem relAt_lawsStep (k m : Nat) (s : State) : LawsStep s (relAt k m s) := by
  unfold relAt
  split
  · exact answer_lawsStep _ s
  · rename_i n _
    split
    · exact answer_lawsStep _ s
    · have ho : StrandOnly n s (releaseTrip n s) := (enterIdle_only n s).trans (mapBlock_only n _ _)
      exact (ho.lawsStep releaseTrip_keepsAside).trans (answer_lawsStep _ _)

theorem ackAt_lawsStep (l : LogSel) (s : State) : LawsStep s (ackAt l s) := by
  have driven (u : State) : LawsStep u (driveAlarm u) := .other (fun _ => rfl) rfl rfl id
  have clear (n : Strand) : LawsStep s (clearLog n s) := by
    refine ((mapBlock_only n s _).lawsStep ?_).trans (driven _)
    rw [ctxOf_mapBlock]
    exact .same rfl rfl
  unfold ackAt
  split
  · exact .other (fun _ => rfl) rfl rfl id
  · split
    · exact answer_lawsStep _ s
    · exact (clear _).trans (answer_lawsStep _ _)

theorem savAt_lawsStep (s : State) : LawsStep s (savAt s) := by
  unfold savAt
  split
  · exact answer_lawsStep _ s
  · split <;> exact .other (fun _ => rfl) rfl rfl id

theorem rstAt_lawsStep (s : State) : LawsStep s (rstAt s) := by
  unfold rstAt
  split
  · exact answer_lawsStep _ s
  · split <;> exact .other (fun _ => rfl) rfl rfl id

theorem saveCompletes_lawsStep (a b : Bool) (s : State) : LawsStep s (saveCompletes a b s) := by
  unfold saveCompletes
  split
  · split <;> exact .other (fun _ => rfl) rfl rfl id
  · exact .refl s

/-! ## Control power and the starts -/

/-- SHUTDOWN stops the window where the part no longer runs (R121, R169). -/
theorem enterShutdown_lawsStep (s : State) : LawsStep s (enterShutdown s) := by
  rw [enterShutdown_rest]
  refine .still (ctxOf_forceOutputs s) id id id ?_
  rintro ⟨-, -, hb, hw⟩
  exact ⟨fun _ => rfl, nofun, hb, hw⟩

theorem supplyFails_lawsStep (s : State) : LawsStep s (supplyFails s) := by
  unfold supplyFails
  split
  · exact enterShutdown_lawsStep s
  all_goals exact .other (fun _ => rfl) rfl rfl id

theorem applyPower_lawsStep (failing : Bool) (s : State) : LawsStep s (applyPower failing s) := by
  unfold applyPower
  rw [forceOutputs_rest]
  exact .other (ctxOf_forceOutputs (losePower s)) rfl rfl nofun

/-- A start leaves monitor and coordinator as new, and every strand in IDLE or TRIPPED (R5, R110, R127, R172). -/
theorem Started.lawsStep {d : ImageData} {t : State} {p : PlantCfg} {volts : Nat} (h : Started d t)
    (hm : t.mon = startMonitor p volts) (hk : t.coord = startCoordinator) : LawsStep s t := by
  obtain ⟨-, -, hb⟩ := h
  refine ⟨fun _ _ n => ?_, fun _ hc => (nomatch (congrArg _ hk).symm.trans hc), fun _ => ?_, fun _ => ?_⟩
  · obtain ⟨-, ⟨hc, -⟩ | ⟨c, q, hc, -⟩⟩ := hb n <;> rw [hc]
    · exact .inl rfl
    · exact .inr (.inr (.inr rfl))
  · rw [monitorLaw, hm]
    exact ⟨iff_of_false nofun nofun, iff_of_true rfl (.inr rfl), lowCount_le _ _ _, Nat.min_le_right _ _⟩
  · rw [coordinatorLaw, hk]
    exact ⟨fun _ => rfl, nofun, Nat.zero_le 2, Nat.zero_le 2⟩

theorem powerStart_lawsStep (terminals : Vector Sample 6) (volts : Nat) (s : State) :
    LawsStep s (powerStart terminals volts s) := by
  have hmc : (powerStart terminals volts s).mon = startMonitor (loadedData s).cfg.plant volts
      ∧ (powerStart terminals volts s).coord = startCoordinator := by
    cases hk : startKind s with
    | lineReset => exact absurd hk (startKind_ne_lineReset s)
    | powerOn =>
      rw [powerStart_powerOn hk]
      exact ⟨rfl, rfl⟩
    | powerReturn snap =>
      rw [powerStart_powerReturn hk, powerReturnTrips_rest terminals rfl]
      exact ⟨rfl, rfl⟩
  exact (powerStart_Started terminals volts s).lawsStep hmc.1 hmc.2

theorem replyDone_lawsStep (volts : Nat) (s : State) : LawsStep s (replyDone volts s) := by
  unfold replyDone
  split
  · exact .refl s
  · split
    · exact (startBase_Started (.inr rfl)).lawsStep rfl rfl
    · exact line_lawsStep _ s

end Events

/-! ## Every command -/

/-- Every command takes the four laws over. -/
theorem exec_lawsStep {i : Instr} {s t : State} (h : exec i s = .next t) : LawsStep s t := by
  have when {f : State → State} (hf : LawsStep s (f s)) : LawsStep s (whenRunning f s) := whenRunning_lawsStep hf
  cases i with
  | controlPeriod n x => cases h; exact when ((periodOn_only n _ s).lawsStep (periodOn_keepsAside n _ s))
  | grantEvaluation => cases h; exact when (evaluateGrants_lawsStep s)
  | spacingTimerExpiry => cases h; exact when (spacingExpires_lawsStep s)
  | carLineSampling b w first => cases h; exact when (sampleCar_lawsStep b w first s)
  | changeWindowExpiry => cases h; exact when (windowExpires_lawsStep s)
  | busVoltageSampling v => cases h; exact when ((readVolts_lawsStep v s).trans (handleVolts_lawsStep _))
  | settleTimerExpiry m => cases h; exact when (settleExpires_lawsStep m s)
  | rideThroughExpiry => cases h; exact when (rideExpires_lawsStep s)
  | timeCounterTick => cases h; exact when (.other (fun _ => rfl) rfl rfl id)
  | requestLine chars => cases h; exact when (foldl_receive_lawsStep chars s)
  | characterReceived code p f => cases h; exact when (receive_lawsStep _ s)
  | replySent v => cases h; exact when (replyDone_lawsStep v s)
  | saveCompletion a b => cases h; exact when (saveCompletes_lawsStep a b s)
  | sta | getIdent | getStrand | getLog | getPlan | getSlot | getCfg | getPermit | getStore | getTime =>
    cases h
    exact serve_lawsStep (fun u => answer_lawsStep _ u) s
  | getCause => cases h; exact serve_lawsStep (act := readCause) (fun _ => .other (fun _ => rfl) rfl rfl id) s
  | getLineerr => cases h; exact serve_lawsStep (act := readLineErrors) (fun _ => .other (fun _ => rfl) rfl rfl id) s
  | put pairs => cases h; exact serve_lawsStep (putAt_lawsStep pairs) s
  | plnHeaderWrite | plnSlotWrite | plnClr => cases h; exact serve_lawsStep (writePlan_lawsStep _ _) s
  | chk p => cases h; exact serve_lawsStep (checkPlan_lawsStep p) s
  | beg n p b r => cases h; exact serve_lawsStep (begAt_lawsStep n p b r) s
  | hld n => cases h; exact serve_lawsStep (hldAt_lawsStep n) s
  | hldAll b => cases h; exact serve_lawsStep (hldAllAt_lawsStep b) s
  | res n p => cases h; exact serve_lawsStep (resAt_lawsStep n p) s
  | stp n => cases h; exact serve_lawsStep (stpAt_lawsStep n) s
  | stpAll b => cases h; exact serve_lawsStep (stpAllAt_lawsStep b) s
  | rel n m => cases h; exact serve_lawsStep (relAt_lawsStep n m) s
  | ack l => cases h; exact serve_lawsStep (ackAt_lawsStep l) s
  | sav => cases h; exact serve_lawsStep savAt_lawsStep s
  | rst => cases h; exact serve_lawsStep rstAt_lawsStep s
  | shutdown => cases h; exact supplyFails_lawsStep s
  | controlSupplyFailingDeassert =>
    cases h
    unfold supplyRestored
    split <;> exact .other (fun _ => rfl) rfl rfl id
  | powerApplication f => cases h; exact applyPower_lawsStep f s
  | start terminals volts =>
    cases h
    split
    · exact powerStart_lawsStep terminals volts s
    · exact .refl s
  | controlPowerLoss => cases h; exact .other (fun _ => rfl) rfl rfl nofun
  | snapshotCompletion =>
    cases h
    unfold snapshotDone
    split <;> exact .other (fun _ => rfl) rfl rfl id

theorem step_lawsStep {s t : State} (h : step s = .next t) : LawsStep s t := by
  unfold step at h
  split at h
  · cases h
    exact .refl s
  · obtain ⟨hs, hc, hm, hk⟩ := exec_lawsStep h
    exact ⟨hs, hc, hm, hk⟩

/-- Settles O5: a strand is brought back from aside only in NORMAL and NO_CHANGE, and is taken aside where the monitor leaves
NORMAL or the coordinator enters CHANGING. -/
theorem supplyAndChangeLawsKept : Obligations.SupplyAndChangeLawsKept :=
  ⟨fun _ _ hs h => (step_lawsStep h).supply hs, fun _ _ hc h => (step_lawsStep h).change hc⟩

/-- Settles O6: each change of monitor or coordinator starts and stops the timers as its next state has them. -/
theorem timerLawsKept : Obligations.TimerLawsKept :=
  fun _ _ hm hk h => ⟨(step_lawsStep h).monitor hm, (step_lawsStep h).coordinator hk⟩

end Sys2Proof.Machine
end

section
/-! PROOF. The bus samples that do not enter DIP (chapter 7): what each monitor state makes of a sample, and that the monitor
alone moves. -/

namespace Sys2Proof.Machine

open Sys2Proof

section Samples

variable {v : Nat} {s : State} {m : MonitorState}

/-! ## What each monitor state makes of a sample -/

theorem handleVolts_normal (hm : s.mon.state = .normal) :
    handleVolts s = if s.mon.low = 2 then enterDip s else s := by
  rw [handleVolts, hm]

theorem handleVolts_dip (hm : s.mon.state = .dip) :
    handleVolts s = if s.cfg.plant.vok ≤ s.mon.sample then startSettle false .settling s else s := by
  simp only [handleVolts, hm, decide_eq_true_eq]

theorem handleVolts_settling (hm : s.mon.state = .settling) :
    handleVolts s = if s.cfg.plant.vok ≤ s.mon.sample then s
      else if s.mon.low = 2 then stopSettle .dip s else startSettle true .settling s := by
  simp only [handleVolts, hm, decide_eq_true_eq]

theorem handleVolts_outage (hm : s.mon.state = .outage) :
    handleVolts s = if s.cfg.plant.vok ≤ s.mon.sample then s else startSettle true .outage s := by
  simp only [handleVolts, hm, decide_eq_true_eq]

/-! ## The reading -/

/-- A sample is first read, then handled (R128). -/
theorem exec_sample (h : s.phase = .running) :
    exec (.busVoltageSampling v) s = .next (handleVolts (readVolts (min v 1500) s)) :=
  congrArg Host.Outcome.next (if_pos h)

/-- The reading leaves the monitor's state, so that it is handled in the state the sample found (R128, R137). -/
theorem readVolts_state (hm : s.mon.state = m) : (readVolts v s).mon.state = m := hm

/-- What a reading leaves, written out in full. -/
theorem readVolts_eq (hm : s.mon.state = m) : readVolts v s = { s with
    mon := { state := m, sample := v, low := lowCount s.cfg.plant.vdip v s.mon.low, ride := s.mon.ride.map (· - 10)
             settle := if s.mon.settleAhead then s.mon.settle else s.mon.settle.map (· - 10)
             settleCut := s.mon.settleCut && s.mon.settleAhead, settleAhead := false } } := by
  subst hm
  rfl

end Samples

/-- Settles O36: the sample is read, and what the state it found makes of the reading is a change of the monitor alone. -/
theorem samplesMoveTheMonitor : Obligations.SamplesMoveTheMonitor := by
  intro v s h
  dsimp only
  rw [exec_sample h]
  refine ⟨fun hm hlow => ?normal, fun hm => ?dip, fun hm => ?settling, fun hm => ?outage⟩
  case normal =>
    have hlow : (readVolts (min v 1500) s).mon.low ≠ 2 := Nat.ne_of_lt hlow
    rw [handleVolts_normal (readVolts_state hm), if_neg hlow, readVolts_eq hm, lowCount]
  case dip =>
    rw [handleVolts_dip (readVolts_state hm), readVolts_eq hm, apply_ite Host.Outcome.next]
    rfl
  case settling =>
    rw [handleVolts_settling (readVolts_state hm), readVolts_eq hm, apply_ite Host.Outcome.next,
      apply_ite Host.Outcome.next]
    rfl
  case outage =>
    rw [handleVolts_outage (readVolts_state hm), readVolts_eq hm, apply_ite Host.Outcome.next]
    rfl

end Sys2Proof.Machine
end

section
/-! SUPPORT. The Next set as a set kept in order (R155): what an entry leaves of it, and that a log stays in order. -/

namespace Sys2Proof.Machine

open Sys2Proof

section NextSet

variable {ρ : Type} {k : Kind} {m : Bool} {e : NextEntry} {es : List NextEntry} {l : Log ρ} {r : ρ}

/-- The order a Next set is kept in (R155). -/
abbrev NextSorted (es : List NextEntry) : Prop := es.Pairwise fun a b => kindNumber a.kind < kindNumber b.kind

/-- A Next set all of whose kinds are above `k` has no entry of kind `k`. -/
theorem kind_ne_of_above (h : ∀ x ∈ es, kindNumber k < kindNumber x.kind) (he : e ∈ es) : e.kind ≠ k :=
  fun hk => Nat.lt_irrefl _ (hk ▸ h e he)

/-- Where the kind neither comes before the head nor is the head's, it comes after it. -/
theorem above_of_not_lt_of_ne {f : NextEntry} (hlt : ¬ kindNumber k < kindNumber f.kind) (hne : k ≠ f.kind) :
    kindNumber f.kind < kindNumber k :=
  Nat.lt_of_le_of_ne (Nat.le_of_not_lt hlt) fun h => hne (kindNumber_injective h.symm)

theorem nextInsert_sorted (h : NextSorted es) : NextSorted (nextInsert k m es) := by
  induction es with
  | nil => exact List.pairwise_singleton _ _
  | cons f fs ih =>
    obtain ⟨hf, hfs⟩ := List.pairwise_cons.1 h
    rw [nextInsert]
    split
    case isTrue hlt =>
      refine List.pairwise_cons.2 ⟨fun x hx => ?_, h⟩
      obtain rfl | hx := List.mem_cons.1 hx
      · exact hlt
      · exact hlt.trans (hf x hx)
    case isFalse hlt =>
      split
      case isTrue hk =>
        subst hk
        exact List.pairwise_cons.2 ⟨hf, hfs⟩
      case isFalse hne =>
        refine List.pairwise_cons.2 ⟨fun x hx => ?_, ih hfs⟩
        obtain hx | rfl := mem_nextInsert hx
        · exact hf x hx
        · exact above_of_not_lt_of_ne hlt hne

/-- An entry of another kind is neither added nor lost. -/
theorem mem_nextInsert_of_ne (h : e.kind ≠ k) : e ∈ nextInsert k m es ↔ e ∈ es := by
  have hnew (b : Bool) : e ≠ ⟨k, b⟩ := fun he => h (congrArg NextEntry.kind he)
  induction es with
  | nil => simp [nextInsert, hnew]
  | cons f fs ih =>
    rw [nextInsert]
    split
    · simp [hnew]
    · split
      · rename_i hk
        have hf : e ≠ f := fun he => h ((congrArg NextEntry.kind he).trans hk.symm)
        simp [hnew, hf]
      · simp [ih]

/-- Some entry of the kind carries an alarm mark. -/
abbrev kindMarked (k : Kind) (es : List NextEntry) : Bool := es.any fun x => x.kind = k && x.mark

theorem kindMarked_of_above (h : ∀ x ∈ es, kindNumber k < kindNumber x.kind) : kindMarked k es = false := by
  refine List.any_eq_false.2 fun x hx => ?_
  simp [kind_ne_of_above h hx]

/-- The entry of the kind entered is the one with the mark that either had (R155). -/
theorem mem_nextInsert_of_eq (hs : NextSorted es) (h : e.kind = k) :
    e ∈ nextInsert k m es ↔ e.mark = (m || kindMarked k es) := by
  have hnew (b : Bool) : e = ⟨k, b⟩ ↔ e.mark = b := by
    subst h
    exact ⟨fun he => congrArg NextEntry.mark he, fun he => by rw [← he]⟩
  induction es with
  | nil => simp [nextInsert, hnew, kindMarked]
  | cons f fs ih =>
    obtain ⟨hf, hfs⟩ := List.pairwise_cons.1 hs
    rw [nextInsert]
    split
    case isTrue hlt =>
      have habove : ∀ x ∈ f :: fs, kindNumber k < kindNumber x.kind := by
        intro x hx
        obtain rfl | hx := List.mem_cons.1 hx
        · exact hlt
        · exact hlt.trans (hf x hx)
      rw [kindMarked_of_above habove, List.mem_cons, hnew, Bool.or_false]
      exact or_iff_left fun he => kind_ne_of_above habove he h
    case isFalse hlt =>
      split
      case isTrue hk =>
        subst hk
        have hmark : kindMarked f.kind (f :: fs) = f.mark := by
          rw [kindMarked, List.any_cons, show fs.any _ = false from kindMarked_of_above hf]
          simp
        rw [hmark, List.mem_cons, hnew, Bool.or_comm]
        exact or_iff_left fun he => kind_ne_of_above hf he h
      case isFalse hne =>
        have hmark : kindMarked k (f :: fs) = kindMarked k fs := by simp [kindMarked, Ne.symm hne]
        have hef : e ≠ f := fun he => hne (by rw [← h, he])
        rw [hmark]
        exact (List.mem_cons.trans (or_iff_right hef)).trans (ih hfs)

/-! ## The log -/

theorem logRecord_of_first_none (h : l.first = none) : logRecord l r k m = { l with first := some r } := by
  rw [logRecord, h]

theorem logRecord_of_first_some {f : ρ} (h : l.first = some f) :
    logRecord l r k m = { l with next := nextInsert k m l.next } := by rw [logRecord, h]

/-- A record of a kind the log can hold keeps the log in order (R155, R161). -/
theorem logOk_logRecord {lo hi : Nat} (h : logOk lo hi l) (hlo : lo ≤ kindNumber k) (hhi : kindNumber k ≤ hi) :
    logOk lo hi (logRecord l r k m) := by
  obtain ⟨hnone, hsorted, hkinds⟩ := h
  cases hf : l.first with
  | none =>
    rw [logRecord_of_first_none hf]
    exact ⟨nofun, hsorted, hkinds⟩
  | some f =>
    rw [logRecord_of_first_some hf]
    refine ⟨fun h => absurd h (by simp [hf]), nextInsert_sorted hsorted, fun e he => ?_⟩
    obtain he | rfl := mem_nextInsert he
    · exact hkinds e he
    · exact ⟨hlo, hhi⟩

theorem logOk_empty (lo hi : Nat) : logOk lo hi (Log.empty : Log ρ) := ⟨fun _ => rfl, .nil, nofun⟩

end NextSet

/-- Settles O39: the First record stays, and the Next set takes the kind in its place with the mark that either had. -/
theorem recordEntersTheLog : Obligations.RecordEntersTheLog := by
  intro ρ l r k m h
  obtain ⟨hnone, hsorted, -⟩ := h
  refine ⟨fun hf => ?_, fun f hf => ?_⟩
  · rw [logRecord_of_first_none hf, hnone hf]
  · rw [logRecord_of_first_some hf]
    exact ⟨hf, fun e => mem_nextInsert_of_ne, fun e => mem_nextInsert_of_eq hsorted, nextInsert_sorted hsorted⟩

end Sys2Proof.Machine
end

section
/-! PROOF. SAV and its completion (R167, R168): the three ends of a SAV, and the two of a completion. -/

namespace Sys2Proof.Machine

open Sys2Proof

section Saves

variable {s : State} {agrees inTime : Bool}

theorem savAt_busy (h : s.store.saving = true) : savAt s = answer (noFor "BUSY" []) s := if_pos h

theorem savAt_worn (h : s.store.saving = false) (hc : s.store.image.count = saveLimit) :
    savAt s = answer (noFor "WEAR" []) s := by
  rw [savAt, if_neg (by simp [h]), if_pos hc]

theorem savAt_begins (h : s.store.saving = false) (hc : s.store.image.count ≠ saveLimit) :
    savAt s = answer okPlain (beginSave s) := by
  rw [savAt, if_neg (by simp [h]), if_neg hc]

/-- A SAV that is taken is answered as the Settings Store answers it, `u` being what it leaves but for the line (R179). -/
theorem exec_sav {reply : Reply} {u : State} (h : taken .sav s)
    (ha : savAt { s with line := lineTaking .sav s.line } = answer reply { u with line := lineTaking .sav u.line }) :
    exec .sav s = .next (answered .sav reply u) :=
  (request_served h rfl).trans (congrArg _ (ha.trans (answer_taking reply u .sav)))

/-- A completion in operation acts on the save under way (R168). -/
theorem exec_saveCompletion (h : s.phase = .running) :
    exec (.saveCompletion agrees inTime) s = .next (saveCompletes agrees inTime s) :=
  congrArg Host.Outcome.next (if_pos h)

theorem saveCompletes_well (h : s.store.saving = true) : saveCompletes true true s = saveDone s := if_pos h

theorem saveCompletes_badly (h : s.store.saving = true) (hb : ¬ (agrees = true ∧ inTime = true)) :
    saveCompletes agrees inTime s = saveFailed s := by
  rw [saveCompletes, if_pos h, if_neg (by rwa [Bool.and_eq_true])]

theorem saveCompletes_none (h : s.store.saving = false) : saveCompletes agrees inTime s = s :=
  if_neg (by simp [h])

end Saves

/-- Settles O55: SAV by its table, then the completion by what the read-back found. -/
theorem savesRunToTheirCompletion : Obligations.SavesRunToTheirCompletion := by
  intro agrees inTime s
  refine ⟨fun ht => ?sav, fun hp => ?completion⟩
  case sav =>
    exact ⟨fun hs => exec_sav ht (savAt_busy hs), fun hs hc => exec_sav ht (savAt_worn hs hc),
      fun hs hc => exec_sav (u := beginSave s) ht (savAt_begins hs hc)⟩
  case completion =>
    rw [exec_saveCompletion hp]
    refine ⟨fun hs ha hi => ?_, fun hs hb => ?_, fun hs => ?_⟩
    · rw [ha, hi, saveCompletes_well hs]
      rfl
    · rw [saveCompletes_badly hs hb]
      rfl
    · rw [saveCompletes_none hs]

end Sys2Proof.Machine
end

section
/-! SUPPORT. The log of one strand under the operations of that strand: each of them enters records of kinds 1 to 16 alone,
and so keeps the log as Law 10 has it (R155, R156, R161). -/

namespace Sys2Proof.Machine

open Sys2Proof

/-- Law 10 goes over from `s` to `t` for the log of strand `n`. -/
def StrandLogKept (n : Strand) (s t : State) : Prop := logOk 1 16 s.strands[n].log → logOk 1 16 t.strands[n].log

section Operations

variable {n : Strand} {s t u : State}

protected theorem StrandLogKept.refl (n : Strand) (s : State) : StrandLogKept n s s := id

protected theorem StrandLogKept.trans (h : StrandLogKept n s t) (k : StrandLogKept n t u) : StrandLogKept n s u := k ∘ h

theorem StrandLogKept.of_log (h : t.strands[n].log = s.strands[n].log) : StrandLogKept n s t := fun hl => h ▸ hl

theorem kindNumber_pos (k : Kind) : 1 ≤ kindNumber k := by cases k <;> decide

/-! ## The shared operations -/

theorem mapBlock_logKept {f : Block → Block} (h : (f s.strands[n]).log = s.strands[n].log) :
    StrandLogKept n s (mapBlock n f s) :=
  .of_log ((congrArg Block.log (mapBlock_same n f s)).trans h)

theorem mapCtx_logKept (n : Strand) (g : Ctx → Ctx) (s : State) : StrandLogKept n s (mapCtx n g s) := mapBlock_logKept rfl

theorem putRecord_logKept {r : StrandRec} (h : kindNumber r.kind ≤ 16) : StrandLogKept n s (putRecord n r s) := by
  intro hl
  rw [show (putRecord n r s).strands[n] = _ from putRecord_val n s r]
  exact logOk_logRecord hl (kindNumber_pos _) h

theorem raise_logKept {k : Kind} (h : kindNumber k ≤ 16) : StrandLogKept n s (raise n k s) := putRecord_logKept h

theorem enqueue_logKept (n : Strand) (s : State) : StrandLogKept n s (enqueue n s) := .of_log rfl

theorem leaveFor_logKept (n : Strand) (next : StrandState) (s : State) : StrandLogKept n s (leaveFor n next s) :=
  .of_log (by rw [leaveFor_block])

theorem enterTripped_logKept (n : Strand) (s : State) : StrandLogKept n s (enterTripped n s) :=
  .of_log (by rw [enterTripped_block])

theorem enterStopping_logKept (n : Strand) (s : State) : StrandLogKept n s (enterStopping n s) :=
  .of_log (by rw [enterStopping_block])

theorem enterChange_logKept (n : Strand) (s : State) : StrandLogKept n s (enterChange n s) :=
  .of_log (by rw [enterChange_block])

theorem holdStrand_logKept (n : Strand) (s : State) : StrandLogKept n s (holdStrand n s) := by
  unfold holdStrand
  split
  · exact (leaveFor_logKept n _ s).trans (mapCtx_logKept n _ _)
  · exact .refl n s

theorem freezeStrand_logKept (n : Strand) (s : State) : StrandLogKept n s (freezeStrand n s) := by
  unfold freezeStrand
  split
  · exact (leaveFor_logKept n _ s).trans (mapCtx_logKept n _ _)
  · exact .refl n s

/-- An action enters no record (R148). -/
theorem applyAction_logKept (n : Strand) (a : Action) (s : State) : StrandLogKept n s (applyAction n a s) := by
  obtain h | ⟨h, -⟩ | ⟨h, -⟩ | ⟨h, -⟩ := applyAction_cases n s a <;> rw [h]
  · exact .refl n s
  · exact enterTripped_logKept n s
  · exact holdStrand_logKept n s
  · exact enterStopping_logKept n s

/-! ## The stages of a control period -/

theorem logOk_enterAll {rs : List StrandRec} {g : Log StrandRec} (h : logOk 1 16 g)
    (hr : ∀ q ∈ rs, kindNumber q.kind ≤ 16) : logOk 1 16 (enterAll rs g) := by
  induction rs generalizing g with
  | nil => exact h
  | cons q rs ih =>
    exact ih (logOk_logRecord h (kindNumber_pos _) (hr q List.mem_cons_self)) fun p hp => hr p (List.mem_cons_of_mem _ hp)

/-- A stage that records kinds of a strand's log alone. -/
theorem Deviates.logKept {ks : List Kind} (h : Deviates n ks s t) (hk : ∀ k ∈ ks, kindNumber k ≤ 16) :
    StrandLogKept n s t := by
  obtain ⟨rs, hr, hks⟩ := h
  intro hl
  rw [hr.log]
  exact logOk_enterAll hl fun q hq => hk _ (hks q hq)

theorem Entered.logKept {as : List Action} (h : Entered n [] as s t) : StrandLogKept n s t := .of_log h.log

theorem kindNumber_condKind_le (c : Cond) : kindNumber (condKind c) ≤ 16 := by cases c <;> decide

theorem checkCond_logKept (n : Strand) (c : Cond) (f : Finding) (s : State) : StrandLogKept n s (checkCond n c f s).st := by
  cases f with
  | present =>
    refine (checkCond_present_deviates n c s).logKept fun k hk => ?_
    rw [List.mem_singleton.1 hk]
    exact kindNumber_condKind_le c
  | absent => exact mapBlock_logKept rfl
  | unknown => exact .refl n s

theorem checkSuspect_logKept (n : Strand) (r : Reading) (prior : List Nat) (s : State) :
    StrandLogKept n s (checkSuspect n r prior s).st := by
  unfold checkSuspect
  split
  · split
    · exact (raise_logKept (by decide)).trans (applyAction_logKept n _ _)
    · exact .refl n s
  · exact .refl n s

theorem unlessCut_logKept {f : State → Period} {p : Period} (h : StrandLogKept n s p.st)
    (hf : ∀ u, StrandLogKept n u (f u).st) : StrandLogKept n s (unlessCut f p).st := by
  unfold unlessCut
  split
  · exact h
  · exact h.trans (hf p.st)

/-- Stage 2 (R149): each check enters its own kind alone. -/
theorem checks_logKept (n : Strand) (r : Reading) (prior : List Nat) (s : State) :
    StrandLogKept n s (checks n r prior s).st := by
  have cond (c : Cond) (f : State → Finding) (u : State) : StrandLogKept n u (checkCond n c (f u) u).st :=
    checkCond_logKept n c _ u
  have breakout : StrandLogKept n s (checkBreakout n r s).st := checkCond_logKept n _ _ s
  have lag (u : State) : StrandLogKept n u (checkLag n r u).st := (mapCtx_logKept n _ u).trans (checkCond_logKept n _ _ _)
  have interlock := unlessCut_logKept (f := checkInterlock n r) breakout (cond _ _)
  have gauge := unlessCut_logKept (f := checkGauge n r) interlock (cond _ _)
  have high := unlessCut_logKept (f := checkLevelHigh n r) gauge (cond _ _)
  have suspect := unlessCut_logKept high (checkSuspect_logKept n r prior)
  have low := unlessCut_logKept (f := checkLevelLow n r) suspect (cond _ _)
  exact unlessCut_logKept low lag

theorem kindNumber_laterKinds_le (st : StrandState) : ∀ k ∈ laterKinds st, kindNumber k ≤ 16 := by
  cases st <;> decide

theorem kindNumber_rampKinds_le : ∀ k ∈ rampKinds, kindNumber k ≤ 16 := by decide

/-- A control period enters kinds of a strand's log alone (R8, R149). -/
theorem periodOn_logKept (n : Strand) (r : Reading) (s : State) : StrandLogKept n s (periodOn n r s) := by
  have opened : StrandLogKept n s (openPeriod n r s) := mapBlock_logKept rfl
  have timed (u : State) : StrandLogKept n u (timedStage n r u).st :=
    (timedStage_deviates n r u).logKept (kindNumber_laterKinds_le _)
  have ramps (u : State) : StrandLogKept n u (rampAndActions n u).st :=
    (rampAndActions_deviates fun _ => List.Subset.refl _).logKept kindNumber_rampKinds_le
  have two := opened.trans (checks_logKept n r (suspectHistory s.strands[n]) _)
  have three := unlessCut_logKept two timed
  have four := unlessCut_logKept three ramps
  exact unlessCut_logKept four fun u => (closePeriod_entered n r u).logKept

/-! ## The parts of the other events -/

/-- A grant enters the SPEED_LIMIT of slot 1 at most (R17, R58). -/
theorem strandGrant_logKept (n : Strand) (s : State) : StrandLogKept n s (strandGrant n s) := by
  unfold strandGrant
  split
  · exact (mapCtx_logKept n _ s).trans
      ((((Entered.refl n _).reported.startSlot 1).deviates (List.Subset.refl _)).logKept kindNumber_rampKinds_le)
  · exact .refl n s

theorem changeBeginAt_logKept (n : Strand) (s : State) : StrandLogKept n s (changeBeginAt n s) := by
  unfold changeBeginAt
  split
  case h_7 =>
    split
    · exact .refl n s
    · exact mapBlock_logKept rfl
  case h_8 | h_9 | h_10 | h_11 => exact .refl n s
  all_goals exact enterChange_logKept n s

/-- The choice of plan F enters NO_PLAN (R52). -/
theorem noteNoPlan_logKept (n : Strand) (r : PlanRef) (s : State) : StrandLogKept n s (noteNoPlan n r s) := by
  unfold noteNoPlan
  split
  · exact raise_logKept (by decide)
  · exact .refl n s

theorem seatedAt_logKept (n : Strand) (s : State) : StrandLogKept n s (seatedAt n s) := by
  have opened (lt : Nat) (u : State) : StrandLogKept n u (mapBlock n (openLoop lt) u) := mapBlock_logKept rfl
  unfold seatedAt
  split
  · exact ((mapCtx_logKept n _ s).trans (opened _ _)).trans (noteNoPlan_logKept n _ _)
  · exact .refl n s

theorem overrunAt_logKept (n : Strand) (s : State) : StrandLogKept n s (overrunAt n s) := by
  unfold overrunAt
  split
  · exact (raise_logKept (by decide)).trans (applyAction_logKept n _ _)
  · exact .refl n s

theorem outageAt_logKept (n : Strand) (s : State) : StrandLogKept n s (outageAt n s) := by
  unfold outageAt
  split
  · exact (raise_logKept (by decide)).trans (applyAction_logKept n _ _)
  · exact .refl n s

theorem beginDip_logKept (n : Strand) (s : State) : StrandLogKept n s (beginDip n s) :=
  (mapCtx_logKept n _ s).trans (noteNoPlan_logKept n _ _)

theorem recoverInto_logKept (f : FreezeReturn) (n : Strand) (s : State) : StrandLogKept n s (recoverInto f n s) := by
  have thawed (st : StrandState) : StrandLogKept n s (thawTo st n s) := mapCtx_logKept n _ s
  have held (st : StrandState) (h : Option HoldReturn) : StrandLogKept n s (setHoldReturn n h (thawTo st n s)) :=
    (thawed st).trans (mapCtx_logKept n _ _)
  cases f with
  | fill | dwell | change => exact held _ _
  | waitPermit => exact (held _ _).trans (enqueue_logKept n _)
  | ramp | cast => exact ((held _ _).trans (beginDip_logKept n _)).trans (enqueue_logKept n _)
  | held =>
    unfold recoverInto recoverHeld
    dsimp only
    split
    · exact (held _ _).trans (beginDip_logKept n _)
    · exact thawed _

theorem recoverAt_logKept (measured : Vector Nat 6) (n : Strand) (s : State) :
    StrandLogKept n s (recoverAt measured n s) := by
  have lowered (m : Nat) : StrandLogKept n s (lowerSpeed m n s) := mapBlock_logKept rfl
  unfold recoverAt
  split
  · exact (lowered _).trans (recoverInto_logKept _ n _)
  · exact .refl n s

theorem stopStrand_logKept (n : Strand) (s : State) : StrandLogKept n s (stopStrand n s) := by
  unfold stopStrand
  split
  · exact enterStopping_logKept n s
  · exact .refl n s

theorem beginStart_logKept (n : Strand) (r : PlanRef) (s : State) : StrandLogKept n s (beginStart n r s) :=
  (mapCtx_logKept n _ s).trans (mapBlock_logKept rfl)

theorem resumeStrand_logKept (n : Strand) (h : HoldReturn) (s : State) : StrandLogKept n s (resumeStrand n h s) := by
  unfold resumeStrand
  split
  · exact (mapCtx_logKept n _ s).trans (enqueue_logKept n _)
  all_goals exact mapCtx_logKept n _ s

theorem releaseTrip_logKept (n : Strand) (s : State) : StrandLogKept n s (releaseTrip n s) :=
  (mapBlock_logKept rfl : StrandLogKept n s (enterIdle n s)).trans (mapBlock_logKept rfl)

theorem clearedLog_logKept (n : Strand) (s : State) :
    StrandLogKept n s (mapBlock n (fun b => { b with log := Log.empty }) s) := by
  intro _
  rw [mapBlock_same]
  exact logOk_empty 1 16

/-- A strand a power return trips enters CONTROL_POWER_LOST (R158, R172). -/
theorem powerLostAt_logKept (terminals : Vector Sample 6) (n : Strand) (s : State) :
    StrandLogKept n s (powerLostAt terminals n s) := by
  unfold powerLostAt
  split
  · exact .refl n s
  · exact (putRecord_logKept (show kindNumber .controlPowerLost ≤ 16 by decide)).trans (enterTripped_logKept n _)

end Operations

end Sys2Proof.Machine
end

section
/-! PROOF. Law 10 at every step (R155, R161): each event is made of operations that keep the log of their strand, and of plant
records of kinds 15 to 19; SHUTDOWN copies the logs into the snapshot and a power return takes them from it. -/

namespace Sys2Proof.Machine

open Sys2Proof

/-! ## The logs of an event -/

/-- Law 10 goes over from `s` to `t` for each log, and the snapshot's data stand. -/
structure LogsKept (s t : State) : Prop where
  strand   : ∀ n : Strand, StrandLogKept n s t
  plant    : logOk 15 19 s.plantLog → logOk 15 19 t.plantLog
  snapshot : t.store.snapshot.data = s.store.snapshot.data

section Rules

variable {n : Strand} {s t u : State}

protected theorem LogsKept.refl (s : State) : LogsKept s s := ⟨fun _ => id, id, rfl⟩

protected theorem LogsKept.trans (h : LogsKept s t) (k : LogsKept t u) : LogsKept s u :=
  ⟨fun n => (h.strand n).trans (k.strand n), k.plant ∘ h.plant, k.snapshot.trans h.snapshot⟩

theorem LogsKept.law (h : LogsKept s t) (hl : logsLaw s) : logsLaw t := by
  obtain ⟨hs, hp, hd⟩ := hl
  refine ⟨fun n => h.strand n (hs n), h.plant hp, ?_⟩
  rw [h.snapshot]
  exact hd

/-- A change that leaves every log and the snapshot. -/
theorem LogsKept.other (hs : t.strands = s.strands) (hp : t.plantLog = s.plantLog)
    (hd : t.store.snapshot.data = s.store.snapshot.data) : LogsKept s t :=
  ⟨fun n => .of_log (by rw [hs]), fun h => hp ▸ h, hd⟩

theorem LogsKept.ofOther (h : LogsKept t u) (hs : t.strands = s.strands) (hp : t.plantLog = s.plantLog)
    (hd : t.store.snapshot.data = s.store.snapshot.data) : LogsKept s u :=
  (LogsKept.other hs hp hd).trans h

/-- An operation of one strand that keeps its log. -/
theorem StrandLogKept.kept (h : StrandLogKept n s t) (ho : StrandOnly n s t) : LogsKept s t := by
  refine ⟨fun m => ?_, fun hp => ho.plantLog ▸ hp, by rw [ho.store]⟩
  by_cases hm : m = n
  · exact hm ▸ h
  · exact .of_log (congrArg Block.log (ho.others m hm))

theorem forEach_logsKept {f : Strand → State → State} (ho : ∀ m u, StrandOnly m u (f m u))
    (hf : ∀ m u, StrandLogKept m u (f m u)) (s : State) : LogsKept s (forEach f s) :=
  forEach_keeps (P := LogsKept s) (fun m u h => h.trans ((hf m u).kept (ho m u))) (.refl s)

theorem whenRunning_logsKept {f : State → State} (h : LogsKept s (f s)) : LogsKept s (whenRunning f s) := by
  unfold whenRunning
  split
  · exact h
  · exact .refl s

end Rules

/-! ## Events of a running part -/

section Events

variable {s : State}

/-- A plant record of a kind of the plant log (R157). -/
theorem raisePlant_logsKept {k : Kind} (h : 15 ≤ kindNumber k) (affected : List Strand) (s : State) :
    LogsKept s (raisePlant k affected s) := by
  have hhi : kindNumber k ≤ 19 := by cases k <;> decide
  exact ⟨fun _ => id, fun hp => logOk_logRecord hp h hhi, rfl⟩

theorem evaluateGrants_logsKept (s : State) : LogsKept s (evaluateGrants s) := by
  refine evaluateGrants_keeps (P := LogsKept s) (fun u _ h => h.trans ?_) (.refl s)
  unfold grantHead
  split
  · exact .refl u
  · exact ((strandGrant_logKept _ _).kept (strandGrant_only _ _)).ofOther rfl rfl rfl

theorem spacingExpires_logsKept (s : State) : LogsKept s (spacingExpires s) := by
  unfold spacingExpires
  split
  · exact (evaluateGrants_logsKept _).ofOther rfl rfl rfl
  · exact .refl s

theorem beginEdge_logsKept (s : State) : LogsKept s (beginEdge s) := by
  unfold beginEdge
  split
  · exact (forEach_logsKept changeBeginAt_only changeBeginAt_logKept _).ofOther rfl rfl rfl
  · exact .refl s

theorem seatedEdge_logsKept (s : State) : LogsKept s (seatedEdge s) := by
  unfold seatedEdge
  split
  · exact (forEach_logsKept seatedAt_only seatedAt_logKept _).ofOther rfl rfl rfl
  · exact raisePlant_logsKept (by decide) _ s

theorem onEdge_logsKept {edge : State → State} (h : ∀ u, LogsKept u (edge u)) (b : Bool) (s : State) :
    LogsKept s (onEdge b edge s) := by
  unfold onEdge
  split
  · exact h s
  · exact .refl s

theorem sampleCar_logsKept (b w first : Bool) (s : State) : LogsKept s (sampleCar b w first s) := by
  have beginning := onEdge_logsKept beginEdge_logsKept
  have seating := onEdge_logsKept seatedEdge_logsKept
  have lines (b w : LineStep) : LogsKept s (sampleLines b w s) := .other rfl rfl rfl
  unfold sampleCar
  dsimp only
  split
  · exact (lines _ _).trans ((seating _ _).trans (beginning _ _))
  · exact (lines _ _).trans ((beginning _ _).trans (seating _ _))

theorem windowExpires_logsKept (s : State) : LogsKept s (windowExpires s) := by
  unfold windowExpires
  split
  · exact (forEach_logsKept overrunAt_only overrunAt_logKept _).ofOther rfl rfl rfl
  · exact .refl s

theorem enterDip_logsKept (s : State) : LogsKept s (enterDip s) := by
  have started (m : Monitor) : LogsKept s (raisePlant .supplyDip [] { s with mon := m }) :=
    (raisePlant_logsKept (by decide) [] { s with mon := m }).ofOther rfl rfl rfl
  exact (started _).trans (forEach_logsKept freezeStrand_only freezeStrand_logKept _)

theorem handleVolts_logsKept (s : State) : LogsKept s (handleVolts s) := by
  have monitor (m : Monitor) : LogsKept s { s with mon := m } := .other rfl rfl rfl
  cases hm : s.mon.state with
  | normal =>
    rw [handleVolts_normal hm]
    split
    · exact enterDip_logsKept s
    · exact .refl s
  | dip =>
    rw [handleVolts_dip hm]
    split
    · exact monitor _
    · exact .refl s
  | settling =>
    rw [handleVolts_settling hm]
    split
    · exact .refl s
    · split <;> exact monitor _
  | outage =>
    rw [handleVolts_outage hm]
    split
    · exact .refl s
    · exact monitor _

theorem settleExpires_logsKept (measured : Vector Nat 6) (s : State) : LogsKept s (settleExpires measured s) := by
  obtain h | ⟨-, -, -, h⟩ | ⟨-, -, -, h⟩ := settleExpires_cases measured s <;> rw [h]
  · exact .refl s
  · exact ((forEach_logsKept (recoverAt_only · · measured) (recoverAt_logKept measured) _).trans
      (evaluateGrants_logsKept _)).ofOther rfl rfl rfl
  · exact (evaluateGrants_logsKept _).ofOther rfl rfl rfl

theorem rideExpires_logsKept (s : State) : LogsKept s (rideExpires s) := by
  unfold rideExpires
  split
  · exact ((forEach_logsKept outageAt_only outageAt_logKept (enterOutage s)).trans
      (raisePlant_logsKept (by decide) _ _)).ofOther rfl rfl rfl
  · exact .refl s

/-- A failed save enters STORE_FAULT (R168). -/
theorem saveCompletes_logsKept (a b : Bool) (s : State) : LogsKept s (saveCompletes a b s) := by
  unfold saveCompletes
  split
  · split
    · exact .other rfl rfl rfl
    · exact (raisePlant_logsKept (by decide) [] _).ofOther rfl rfl rfl
  · exact .refl s

/-! ## Requests -/

theorem answer_logsKept (r : Reply) (s : State) : LogsKept s (answer r s) := .other rfl rfl rfl

theorem line_logsKept (l : Line) (s : State) : LogsKept s { s with line := l } := .other rfl rfl rfl

theorem receive_logsKept (x : Option Nat) (s : State) : LogsKept s (receive x s) := by
  obtain ⟨l, h⟩ := receive_line x s
  rw [h]
  exact line_logsKept l s

theorem foldl_receive_logsKept (chars : Text) (s : State) :
    LogsKept s (chars.foldl (fun u x => receive (some x) u) s) := by
  induction chars generalizing s with
  | nil => exact .refl s
  | cons x xs ih => exact (receive_logsKept _ s).trans (ih _)

theorem serve_logsKept {r : Request} {act : State → State} (h : ∀ u, LogsKept u (act u)) (s : State) :
    LogsKept s (whenRunning (serve r act) s) := by
  refine whenRunning_logsKept ?_
  unfold serve
  split
  · split
    · exact (line_logsKept _ s).trans (answer_logsKept _ _)
    · exact (line_logsKept _ s).trans (h _)
  · exact line_logsKept _ s

theorem writePlan_logsKept (p : Nat) (f : Plan → Plan) (s : State) : LogsKept s (writePlan p f s) := by
  unfold writePlan
  split
  · exact answer_logsKept _ s
  · split <;> exact .other rfl rfl rfl

theorem checkPlan_logsKept (p : Nat) (s : State) : LogsKept s (checkPlan p s) := by
  unfold checkPlan
  split
  · exact answer_logsKept _ s
  · split
    · exact answer_logsKept _ s
    · split
      · exact answer_logsKept _ s
      · exact answer_logsKept _ s
      · split <;> exact .other rfl rfl rfl

theorem putAt_logsKept (pairs : List (CfgKey × Value)) (s : State) : LogsKept s (putAt pairs s) := by
  unfold putAt applyPut
  split
  · exact answer_logsKept _ s
  · dsimp only
    split
    · exact (evaluateGrants_logsKept _).ofOther rfl rfl rfl
    · exact .other rfl rfl rfl

theorem begAt_logsKept (k : Nat) (plan : Option Nat) (seated ready : Bool) (s : State) :
    LogsKept s (begAt k plan seated ready s) := by
  unfold begAt
  split
  · exact answer_logsKept _ s
  · split
    · exact answer_logsKept _ s
    · exact ((beginStart_logKept _ _ s).kept ((mapCtx_only _ s _).trans (mapBlock_only _ _ _))).trans
        (answer_logsKept _ _)

theorem hldAt_logsKept (k : Nat) (s : State) : LogsKept s (hldAt k s) := by
  unfold hldAt
  split
  · exact answer_logsKept _ s
  · split
    · exact ((holdStrand_logKept _ s).kept (holdStrand_only _ s)).trans (answer_logsKept _ _)
    · exact answer_logsKept _ s

theorem stpAt_logsKept (k : Nat) (s : State) : LogsKept s (stpAt k s) := by
  unfold stpAt
  split
  · exact answer_logsKept _ s
  · split
    · exact ((stopStrand_logKept _ s).kept (stopStrand_only _ s)).trans (answer_logsKept _ _)
    · exact answer_logsKept _ s

theorem answerUnless_logsKept (b : Bool) (r : Reply) (s : State) : LogsKept s (answerUnless b r s) := by
  unfold answerUnless
  split
  · exact .refl s
  · exact answer_logsKept r s

theorem hldAllAt_logsKept (b : Bool) (s : State) : LogsKept s (hldAllAt b s) :=
  (forEach_logsKept holdStrand_only holdStrand_logKept s).trans (answerUnless_logsKept b _ _)

theorem stpAllAt_logsKept (b : Bool) (s : State) : LogsKept s (stpAllAt b s) :=
  (forEach_logsKept stopStrand_only stopStrand_logKept s).trans (answerUnless_logsKept b _ _)

theorem resAt_logsKept (k : Nat) (plan : Option Nat) (s : State) : LogsKept s (resAt k plan s) := by
  unfold resAt
  split
  · exact answer_logsKept _ s
  · split
    · exact ((resumeStrand_logKept _ _ s).kept (resumeStrand_only _ _ s)).trans (answer_logsKept _ _)
    · exact answer_logsKept _ s

theorem relAt_logsKept (k m : Nat) (s : State) : LogsKept s (relAt k m s) := by
  unfold relAt
  split
  · exact answer_logsKept _ s
  · split
    · exact answer_logsKept _ s
    · exact ((releaseTrip_logKept _ s).kept ((enterIdle_only _ s).trans (mapBlock_only _ _ _))).trans
        (answer_logsKept _ _)

/-- ACK empties one log (R160). -/
theorem ackAt_logsKept (l : LogSel) (s : State) : LogsKept s (ackAt l s) := by
  unfold ackAt
  split
  · exact ⟨fun _ => id, fun _ => logOk_empty 15 19, rfl⟩
  · split
    · exact answer_logsKept _ s
    · exact ((clearedLog_logKept _ s).kept (mapBlock_only _ s _)).trans (.other rfl rfl rfl)

theorem savAt_logsKept (s : State) : LogsKept s (savAt s) := by
  unfold savAt
  split
  · exact answer_logsKept _ s
  · split <;> exact .other rfl rfl rfl

theorem rstAt_logsKept (s : State) : LogsKept s (rstAt s) := by
  unfold rstAt
  split
  · exact answer_logsKept _ s
  · split <;> exact .other rfl rfl rfl

/-- Every command but those of control power and the end of a reply. -/
theorem exec_logsKept {i : Instr} {t : State} (hc : isPowerCommand i = false) (hr : ∀ v, i ≠ .replySent v)
    (h : exec i s = .next t) : LogsKept s t := by
  have when {f : State → State} (hf : LogsKept s (f s)) : LogsKept s (whenRunning f s) := whenRunning_logsKept hf
  cases i with
  | controlPeriod n x => cases h; exact when ((periodOn_logKept n _ s).kept (periodOn_only n _ s))
  | grantEvaluation => cases h; exact when (evaluateGrants_logsKept s)
  | spacingTimerExpiry => cases h; exact when (spacingExpires_logsKept s)
  | carLineSampling b w first => cases h; exact when (sampleCar_logsKept b w first s)
  | changeWindowExpiry => cases h; exact when (windowExpires_logsKept s)
  | busVoltageSampling v => cases h; exact when ((handleVolts_logsKept _).ofOther rfl rfl rfl)
  | settleTimerExpiry m => cases h; exact when (settleExpires_logsKept m s)
  | rideThroughExpiry => cases h; exact when (rideExpires_logsKept s)
  | timeCounterTick => cases h; exact when (.other rfl rfl rfl)
  | requestLine chars => cases h; exact when (foldl_receive_logsKept chars s)
  | characterReceived code p f => cases h; exact when (receive_logsKept _ s)
  | saveCompletion a b => cases h; exact when (saveCompletes_logsKept a b s)
  | replySent v => exact absurd rfl (hr v)
  | sta | getIdent | getStrand | getLog | getPlan | getSlot | getCfg | getPermit | getStore | getTime =>
    cases h
    exact serve_logsKept (fun u => answer_logsKept _ u) s
  | getCause => cases h; exact serve_logsKept (act := readCause) (fun _ => .other rfl rfl rfl) s
  | getLineerr => cases h; exact serve_logsKept (act := readLineErrors) (fun _ => .other rfl rfl rfl) s
  | put pairs => cases h; exact serve_logsKept (putAt_logsKept pairs) s
  | plnHeaderWrite | plnSlotWrite | plnClr => cases h; exact serve_logsKept (writePlan_logsKept _ _) s
  | chk p => cases h; exact serve_logsKept (checkPlan_logsKept p) s
  | beg n p b r => cases h; exact serve_logsKept (begAt_logsKept n p b r) s
  | hld n => cases h; exact serve_logsKept (hldAt_logsKept n) s
  | hldAll b => cases h; exact serve_logsKept (hldAllAt_logsKept b) s
  | res n p => cases h; exact serve_logsKept (resAt_logsKept n p) s
  | stp n => cases h; exact serve_logsKept (stpAt_logsKept n) s
  | stpAll b => cases h; exact serve_logsKept (stpAllAt_logsKept b) s
  | rel n m => cases h; exact serve_logsKept (relAt_logsKept n m) s
  | ack l => cases h; exact serve_logsKept (ackAt_logsKept l) s
  | sav => cases h; exact serve_logsKept savAt_logsKept s
  | rst => cases h; exact serve_logsKept rstAt_logsKept s
  | shutdown | controlSupplyFailingDeassert | powerApplication | start | controlPowerLoss | snapshotCompletion =>
    cases hc

/-! ## Control power and the starts -/

theorem forceOutputs_logsKept (s : State) : LogsKept s (forceOutputs s) := by
  refine ⟨fun n => .of_log ?_, ?_, ?_⟩
  · rw [forceOutputs_block]
    rfl
  · rw [forceOutputs_rest]
    exact id
  · rw [forceOutputs_rest]

/-- The snapshot SHUTDOWN begins to write holds the logs of the part (R169). -/
theorem enterShutdown_logsLaw (h : logsLaw s) : logsLaw (enterShutdown s) := by
  obtain ⟨hs, hp, -⟩ := id h
  obtain ⟨ht, hq, -⟩ := (forceOutputs_logsKept s).law h
  refine ⟨ht, hq, fun d hd => ?_⟩
  obtain rfl := Option.mem_some_iff.1 hd
  refine ⟨fun n => ?_, hp⟩
  rw [show (snapshotOf s).logs[n] = s.strands[n].log by simp [snapshotOf]]
  exact hs n

/-- A start's logs are empty, or those of the snapshot a power return brings (R158). -/
theorem startBase_logsLaw {k : StartKind} {volts : Nat} (h : logsLaw s)
    (hk : ∀ d, k = .powerReturn d → d ∈ s.store.snapshot.data) : logsLaw (startBase k volts s) := by
  obtain ⟨-, -, hd⟩ := h
  refine ⟨fun n => ?_, ?_, hd⟩
  · rw [startBase_block]
    cases k with
    | powerReturn d => exact (hd d (hk d rfl)).1 n
    | powerOn | lineReset => exact logOk_empty 1 16
  · cases k with
    | powerReturn d => exact (hd d (hk d rfl)).2
    | powerOn | lineReset => exact logOk_empty 15 19

theorem powerReturnTrips_logsKept (terminals : Vector Sample 6) (s : State) :
    LogsKept s (powerReturnTrips terminals s) := by
  have recorded := (forEach_logsKept (powerLostAt_only terminals) (powerLostAt_logKept terminals) s).trans
    (raisePlant_logsKept (k := .controlPowerLost) (by decide) (notIdleStrands s) _)
  unfold powerReturnTrips
  generalize raisePlant .controlPowerLost _ _ = u at recorded
  exact recorded.trans (.other rfl rfl rfl)

/-- The snapshot that makes a start a power return is the one stored (R170). -/
theorem startKind_snapshot {d : SnapData} (h : startKind s = .powerReturn d) : d ∈ s.store.snapshot.data := by
  unfold startKind at h
  split at h
  · split at h
    · cases h
      assumption
    · cases h
  · cases h

theorem powerStart_logsLaw (terminals : Vector Sample 6) (volts : Nat) (h : logsLaw s) :
    logsLaw (powerStart terminals volts s) := by
  have ended : logsLaw (endSnapshotWrite s) := (LogsKept.other (s := s) rfl rfl rfl).law h
  have driven (u : State) : LogsKept u (driveAlarm u) := .other rfl rfl rfl
  cases hk : startKind s with
  | lineReset => exact absurd hk (startKind_ne_lineReset s)
  | powerOn =>
    rw [powerStart_powerOn hk]
    exact (driven _).law (startBase_logsLaw ended fun _ hk => nomatch hk)
  | powerReturn snap =>
    rw [powerStart_powerReturn hk]
    refine ((powerReturnTrips_logsKept terminals _).trans (driven _)).law (startBase_logsLaw ended fun d hd => ?_)
    obtain rfl := StartKind.powerReturn.inj hd
    exact startKind_snapshot hk

theorem replyDone_logsLaw (volts : Nat) (h : logsLaw s) : logsLaw (replyDone volts s) := by
  have driven (u : State) : LogsKept u (driveAlarm u) := .other rfl rfl rfl
  unfold replyDone
  split
  · exact h
  · split
    · exact (driven _).law (startBase_logsLaw h fun _ hk => nomatch hk)
    · exact (line_logsKept _ s).law h

end Events

/-! ## Every command -/

theorem exec_logsLaw {i : Instr} {s t : State} (hl : logsLaw s) (h : exec i s = .next t) : logsLaw t := by
  have other {u : State} (hs : u.strands = s.strands) (hp : u.plantLog = s.plantLog)
      (hd : u.store.snapshot.data = s.store.snapshot.data) : logsLaw u := (LogsKept.other hs hp hd).law hl
  by_cases hr : ∃ v, i = .replySent v
  · obtain ⟨v, rfl⟩ := hr
    cases h
    unfold whenRunning
    split
    · exact replyDone_logsLaw v hl
    · exact hl
  by_cases hc : isPowerCommand i = false
  · exact (exec_logsKept hc (fun v e => hr ⟨v, e⟩) h).law hl
  cases i with
  | shutdown =>
    cases h
    unfold supplyFails
    split
    · exact enterShutdown_logsLaw hl
    all_goals exact other rfl rfl rfl
  | snapshotCompletion =>
    cases h
    unfold snapshotDone
    split <;> exact other rfl rfl rfl
  | controlSupplyFailingDeassert =>
    cases h
    unfold supplyRestored
    split <;> exact other rfl rfl rfl
  | controlPowerLoss => cases h; exact other rfl rfl rfl
  | powerApplication f =>
    cases h
    have lost : LogsKept s (losePower s) := .other rfl rfl rfl
    exact ((lost.trans (forceOutputs_logsKept _)).trans (.other rfl rfl rfl)).law hl
  | start terminals volts =>
    cases h
    split
    · exact powerStart_logsLaw terminals volts hl
    · exact hl
  | _ => exact absurd rfl hc

/-- Settles O10: a record enters a log that can hold its kind, and a log is else copied, restored or emptied. -/
theorem logsLawKept : Obligations.LogsLawKept := by
  intro s t hl h
  unfold step at h
  split at h
  · cases h
    exact hl
  · refine exec_logsLaw ?_ h
    exact hl

end Sys2Proof.Machine
end

section
/-! SUPPORT. Text of the line read back (R163, R164, R176, R179, R180): numbers in decimal, words, cuts at a character, and
the frame of a line. -/

namespace Sys2Proof.Machine

open Sys2Proof

/-! ## Numbers -/

/-- `ds` is a number's decimal text: digits alone, at least one, and no more than the number needs. -/
structure Writes (ds : Text) (n : Nat) : Prop where
  nonempty : ds ≠ []
  digits   : ∀ c ∈ ds, isDigit c = true
  value    : digitsValue ds = n
  short    : ∀ k, 0 < k → n < 10 ^ k → ds.length ≤ k

theorem isDigit_of_lt {d : Nat} (h : d < 10) : isDigit (48 + d) = true := by
  simp only [isDigit, Bool.and_eq_true, decide_eq_true_eq]
  omega

theorem writes_digit {n : Nat} (h : n < 10) : Writes [48 + n] n where
  nonempty := List.cons_ne_nil _ _
  digits c hc := List.mem_singleton.1 hc ▸ isDigit_of_lt h
  value := by simp [digitsValue]
  short _ hk _ := hk

/-- One more digit at the end. -/
theorem Writes.snoc {ds : Text} {n : Nat} (hn : 10 ≤ n) (h : Writes ds (n / 10)) : Writes (ds ++ [48 + n % 10]) n where
  nonempty := by simp
  digits c hc := by
    obtain hc | hc := List.mem_append.1 hc
    · exact h.digits c hc
    · exact List.mem_singleton.1 hc ▸ isDigit_of_lt (Nat.mod_lt n (by decide))
  value := by
    have hv := h.value
    unfold digitsValue at hv ⊢
    rw [List.foldl_append, hv, List.foldl_cons, List.foldl_nil]
    omega
  short k hk hlt := by
    obtain ⟨j, rfl⟩ := Nat.exists_eq_add_one.2 hk
    have hdiv : n / 10 < 10 ^ j := Nat.div_lt_of_lt_mul (by rwa [Nat.pow_succ, Nat.mul_comm] at hlt)
    have hj : 0 < j := by
      refine Nat.pos_of_ne_zero fun h0 => ?_
      subst h0
      omega
    simpa using h.short j hj hdiv

theorem decimalAux_writes {fuel n : Nat} (acc : Text) (hf : 0 < fuel) (h : n < 2 ^ fuel) :
    ∃ ds, decimalAux fuel n acc = ds ++ acc ∧ Writes ds n := by
  induction fuel generalizing n acc with
  | zero => cases hf
  | succ fuel ih =>
    rw [decimalAux]
    split
    · exact ⟨_, rfl, writes_digit ‹_›⟩
    · have hfuel : 0 < fuel := by
        refine Nat.pos_of_ne_zero fun h0 => ?_
        subst h0
        omega
      obtain ⟨ds, hds, hw⟩ := ih (n := n / 10) ((48 + n % 10) :: acc) hfuel (by rw [Nat.pow_succ] at h; omega)
      exact ⟨ds ++ [48 + n % 10], by rw [hds, List.append_assoc, List.singleton_append], hw.snoc (by omega)⟩

/-- A number's decimal text writes it (R180). -/
theorem decimal_writes (n : Nat) : Writes (decimal n) n := by
  obtain ⟨ds, hds, hw⟩ := decimalAux_writes (fuel := n.log2 + 1) [] (Nat.succ_pos _) Nat.lt_log2_self
  rw [decimal, hds, List.append_nil]
  exact hw

theorem decimal_injective : Function.Injective decimal := fun m n h => by
  rw [← (decimal_writes m).value, h, (decimal_writes n).value]

/-- A number of up to six digits is read as it was written (R179). -/
theorem readArg_decimal {n : Nat} (h : n < 1000000) : readArg (decimal n) = .num n := by
  obtain ⟨hne, hd, hv, hs⟩ := decimal_writes n
  have hdigits : isDigits (decimal n) = true := by
    rw [isDigits, Bool.and_eq_true, List.all_eq_true]
    exact ⟨by simpa using hne, hd⟩
  rw [readArg, if_pos hdigits, if_pos (hs 6 (by decide) h), hv]

/-! ## Cuts -/

section Cuts

variable {c : Nat} {t : Text}

theorem splitAtEvery_ne_nil (c : Nat) (t : Text) : splitAtEvery c t ≠ [] := by
  cases t with
  | nil => exact List.cons_ne_nil _ _
  | cons x xs =>
    rw [splitAtEvery]
    split
    · exact List.cons_ne_nil _ _
    · split <;> exact List.cons_ne_nil _ _

/-- A character other than `c` joins the first piece. -/
theorem splitAtEvery_cons_of_ne {x : Nat} {p : Text} {ps : List Text} (hx : x ≠ c) (h : splitAtEvery c t = p :: ps) :
    splitAtEvery c (x :: t) = (x :: p) :: ps := by
  rw [splitAtEvery, if_neg hx, h]

theorem splitAtEvery_of_notMem (h : c ∉ t) : splitAtEvery c t = [t] := by
  induction t with
  | nil => rfl
  | cons x xs ih =>
    rw [List.mem_cons, not_or] at h
    exact splitAtEvery_cons_of_ne (Ne.symm h.1) (ih h.2)

theorem splitAtEvery_append (h : c ∉ t) (u : Text) : splitAtEvery c (t ++ c :: u) = t :: splitAtEvery c u := by
  induction t with
  | nil => exact if_pos rfl
  | cons x xs ih =>
    rw [List.mem_cons, not_or] at h
    exact splitAtEvery_cons_of_ne (Ne.symm h.1) (ih h.2)

theorem cutAtFirst_append (h : c ∉ t) (u : Text) : cutAtFirst c (t ++ c :: u) = some (t, u) := by
  induction t with
  | nil => exact if_pos rfl
  | cons x xs ih =>
    rw [List.mem_cons, not_or] at h
    rw [List.cons_append, cutAtFirst, if_neg (Ne.symm h.1), ih h.2]
    rfl

theorem cutAtFirst_of_notMem (h : c ∉ t) : cutAtFirst c t = none := by
  induction t with
  | nil => rfl
  | cons x xs ih =>
    rw [List.mem_cons, not_or] at h
    rw [cutAtFirst, if_neg (Ne.symm h.1), ih h.2]
    rfl

end Cuts

/-! ## Frames -/

section Frames

variable {a : Nat} {body check : Text}

/-- The end of a line is cut off where it was put on (R176). -/
theorem cutTail_append {p q : Nat} (h : body ≠ []) : cutTail (body ++ [32, 42, p, q, 13]) = some (body, [p, q]) := by
  have hr : (body ++ [32, 42, p, q, 13]).reverse = 13 :: q :: p :: 42 :: 32 :: body.reverse := by simp
  rw [cutTail, hr]
  simp [h]

/-- Two decimal digits give the address back (R176). -/
theorem addressDigits_value (h : a < 100) : 10 * (48 + a / 10 % 10 - 48) + (48 + a % 10 - 48) = a := by omega

/-- A line written with any two check digits is framed where they are the sum of the covered characters (R176). -/
theorem frameOf_line (ha : a < 100) (hb : body ≠ []) (hc : check.length = 2) :
    frameOf (62 :: (addressDigits a ++ 32 :: body ++ [32]) ++ 42 :: check ++ [13])
      = if checkDigits (addressDigits a ++ 32 :: body ++ [32]) = check then some { addr := a, body := body } else none := by
  obtain ⟨p, q, rfl⟩ := List.length_eq_two.1 hc
  have hline : 62 :: (addressDigits a ++ 32 :: body ++ [32]) ++ 42 :: [p, q] ++ [13]
      = 62 :: (48 + a / 10 % 10) :: (48 + a % 10) :: 32 :: (body ++ [32, 42, p, q, 13]) := by simp [addressDigits]
  have hdigits : (isDigit (48 + a / 10 % 10) && isDigit (48 + a % 10)) = true :=
    Bool.and_eq_true_iff.2 ⟨isDigit_of_lt (Nat.mod_lt _ (by decide)), isDigit_of_lt (Nat.mod_lt _ (by decide))⟩
  rw [hline, frameOf, if_pos hdigits, cutTail_append hb]
  dsimp only
  rw [addressDigits_value ha]
  rfl

end Frames

end Sys2Proof.Machine
end

section
/-! PROOF. What is written on the line is read back: a framed line, and a PUT of any key and any value its item takes
(R147, R163, R164, R176, R179, R184). -/

namespace Sys2Proof.Machine

open Sys2Proof

/-! ## The names on the line -/

/-- Capitals and the underscore, which the names of items, kinds and values are made of. -/
def isNameLetter (c : Nat) : Bool := within (65, 90) c || c == 95

theorem notMem_of_all {t : Text} {p : Nat → Bool} {c : Nat} (ht : t.all p = true) (hc : p c = false) : c ∉ t :=
  fun h => Bool.false_ne_true (hc.symm.trans (List.all_eq_true.1 ht c h))

theorem strandItemName_letters (i : StrandItem) : (strandItemName i).all isNameLetter = true := by cases i <;> decide

theorem plantItemName_letters (i : PlantItem) : (plantItemName i).all isNameLetter = true := by cases i <;> decide

theorem kindName_letters (k : Kind) : (kindName k).all isNameLetter = true := by cases k <;> decide

theorem mem_allStrandItems (i : StrandItem) : i ∈ allStrandItems := by cases i <;> decide

theorem mem_allPlantItems (i : PlantItem) : i ∈ allPlantItems := by cases i <;> decide

theorem mem_allKinds (k : Kind) : k ∈ allKinds := by cases k <;> decide

theorem strandItemName_injective : Function.Injective strandItemName := fun i j h =>
  List.inj_on_of_nodup_map (f := strandItemName) (l := allStrandItems) (by decide) (mem_allStrandItems i)
    (mem_allStrandItems j) h

theorem plantItemName_injective : Function.Injective plantItemName := fun i j h =>
  List.inj_on_of_nodup_map (f := plantItemName) (l := allPlantItems) (by decide) (mem_allPlantItems i)
    (mem_allPlantItems j) h

theorem kindName_injective : Function.Injective kindName := fun j k h =>
  List.inj_on_of_nodup_map (f := kindName) (l := allKinds) (by decide) (mem_allKinds j) (mem_allKinds k) h

theorem strandText_injective : Function.Injective strandText := fun _ _ h =>
  Fin.ext (Nat.succ.inj (decimal_injective h))

/-! ## Keys -/

/-- The characters of a key and of a value: letters of names, digits, and the dot. -/
def isKeyChar (c : Nat) : Bool := isNameLetter c || isDigit c || c == 46

theorem isKeyChar_of_letters {t : Text} (h : t.all isNameLetter = true) : t.all isKeyChar = true := by
  rw [List.all_eq_true] at h ⊢
  exact fun c hc => by simp [isKeyChar, h c hc]

theorem decimal_keyChars (n : Nat) : (decimal n).all isKeyChar = true := by
  rw [List.all_eq_true]
  exact fun c hc => by simp [isKeyChar, (decimal_writes n).digits c hc]

theorem keyText_keyChars (k : CfgKey) : (keyText k).all isKeyChar = true := by
  cases k with
  | strand i n =>
    rw [keyText, List.all_append, List.all_cons, isKeyChar_of_letters (strandItemName_letters i), strandText,
      decimal_keyChars]
    rfl
  | plant i => exact isKeyChar_of_letters (plantItemName_letters i)
  | act k =>
    rw [keyText, List.all_append, isKeyChar_of_letters (kindName_letters k)]
    rfl
  | alm k =>
    rw [keyText, List.all_append, isKeyChar_of_letters (kindName_letters k)]
    rfl

theorem valueText_keyChars (v : Value) : (valueText v).all isKeyChar = true := by
  cases v with
  | num n => exact decimal_keyChars n
  | _ => decide

/-- What stands before and after the dot of a key; a plant item has none (R147, R163, R164). -/
def keyParts : CfgKey → Option (Text × Text)
  | .strand i n => some (strandItemName i, strandText n)
  | .plant _ => none
  | .act k => some (word "ACT", kindName k)
  | .alm k => some (word "ALM", kindName k)

theorem cutAtFirst_keyText (k : CfgKey) : cutAtFirst 46 (keyText k) = keyParts k := by
  cases k with
  | strand i n => exact cutAtFirst_append (notMem_of_all (strandItemName_letters i) rfl) _
  | plant i => exact cutAtFirst_of_notMem (notMem_of_all (plantItemName_letters i) rfl)
  | act k => exact cutAtFirst_append (t := word "ACT") (by decide) _
  | alm k => exact cutAtFirst_append (t := word "ALM") (by decide) _

theorem strandItemName_ne_act_alm (i : StrandItem) : strandItemName i ≠ word "ACT" ∧ strandItemName i ≠ word "ALM" := by
  cases i <;> decide

/-- Two keys are not written alike: their parts differ, or their names. -/
theorem keyText_injective : Function.Injective keyText := by
  intro j k h
  have hp : keyParts j = keyParts k := by rw [← cutAtFirst_keyText, h, cutAtFirst_keyText]
  have parts {a b c d : Text} (e : some (a, b) = some (c, d)) : a = c ∧ b = d := Prod.mk.inj (Option.some.inj e)
  have hactalm : word "ACT" ≠ word "ALM" := by decide
  cases j with
  | strand i n =>
    obtain ⟨hact, halm⟩ := strandItemName_ne_act_alm i
    cases k with
    | strand i' n' =>
      obtain ⟨hi, hn⟩ := parts hp
      rw [strandItemName_injective hi, strandText_injective hn]
    | plant => cases hp
    | act => exact absurd (parts hp).1 hact
    | alm => exact absurd (parts hp).1 halm
  | plant i =>
    cases k with
    | plant i' => rw [plantItemName_injective h]
    | strand | act | alm => cases hp
  | act a =>
    cases k with
    | strand i => exact absurd (parts hp).1.symm (strandItemName_ne_act_alm i).1
    | plant => cases hp
    | act b => rw [kindName_injective (parts hp).2]
    | alm => exact absurd (parts hp).1 hactalm
  | alm a =>
    cases k with
    | strand i => exact absurd (parts hp).1.symm (strandItemName_ne_act_alm i).2
    | plant => cases hp
    | act => exact absurd (parts hp).1.symm hactalm
    | alm b => rw [kindName_injective (parts hp).2]

theorem mem_putKeys (k : CfgKey) : k ∈ putKeys := by
  have strands (n : Strand) : n ∈ allStrands := by revert n; decide
  cases k <;> simp [putKeys, mem_allStrandItems, mem_allPlantItems, mem_allKinds, strands]

/-- The key written is the key read (R179). -/
theorem putKeyOf_keyText (k : CfgKey) : putKeyOf (keyText k) = some k := by
  unfold putKeyOf
  cases hf : putKeys.find? (fun j => keyText j == keyText k) with
  | none => exact absurd (beq_self_eq_true (keyText k)) (List.find?_eq_none.1 hf k (mem_putKeys k))
  | some j =>
    have hj : (keyText j == keyText k) = true := List.find?_some (p := fun j => keyText j == keyText k) hf
    rw [keyText_injective (eq_of_beq hj)]

/-! ## Values -/

theorem le_of_within {r : Nat × Nat} {v : Nat} (h : within r v = true) : v ≤ r.2 :=
  of_decide_eq_true (Bool.and_eq_true_iff.1 h).2

/-- Every number an item takes has six digits at most (R163, R164). -/
theorem num_lt_of_accepts {k : CfgKey} {n : Nat} (h : accepts k (.num n) = true) : n < 1000000 := by
  cases k with
  | strand i m =>
    cases i with
    | enabled => cases h
    | _ => exact (le_of_within h).trans_lt (by decide)
  | plant i =>
    cases i with
    | parity => cases h
    | baud =>
      have hrate : n ∈ baudRates := List.contains_iff_mem.1 h
      exact (show ∀ v ∈ baudRates, v < 1000000 by decide) n hrate
    | _ => exact (le_of_within h).trans_lt (by decide)
  | act k | alm k => exact absurd (Bool.and_eq_true_iff.1 h).2 Bool.false_ne_true

/-- No item takes a word that is none of theirs (R147, R163, R164). -/
theorem accepts_other (k : CfgKey) : accepts k .other = false := by
  cases k with
  | strand i m => cases i <;> rfl
  | plant i => cases i <;> rfl
  | act k => exact Bool.and_false _
  | alm k => exact Bool.and_false _

/-- A value an item takes is read as it was written, and its text is not empty (R179). -/
theorem valueArg_valueText {k : CfgKey} {v : Value} (h : accepts k v = true) :
    valueText v ≠ [] ∧ valueArg (valueText v) = some v := by
  cases v with
  | num n =>
    refine ⟨(decimal_writes n).nonempty, ?_⟩
    rw [valueArg, valueText, readArg_decimal (num_lt_of_accepts h)]
  | other => exact absurd h (by rw [accepts_other]; decide)
  | _ => exact ⟨by decide, by decide⟩

/-! ## A PUT -/

theorem splitPair_written {k : CfgKey} {v : Value} (h : accepts k v = true) :
    splitPair (keyText k ++ 61 :: valueText v) = some (keyText k, v) := by
  obtain ⟨hne, hv⟩ := valueArg_valueText h
  have hk : keyText k ≠ [] := by
    cases k with
    | strand i n => exact List.append_ne_nil_of_right_ne_nil _ (List.cons_ne_nil _ _)
    | plant i => cases i <;> decide
    | act k | alm k => exact List.cons_ne_nil _ _
  rw [splitPair, cutAtFirst_append (notMem_of_all (keyText_keyChars k) rfl)]
  simp [hk, hne, hv]

theorem readPut_written {k : CfgKey} {v : Value} (h : accepts k v = true) :
    readPut [keyText k ++ 61 :: valueText v] = .request (.put [(k, v)]) := by
  have hpairs : [keyText k ++ 61 :: valueText v].mapM splitPair = some [(keyText k, v)] := by
    simp [splitPair_written h]
  have hkeys : lookUpKeys [(keyText k, v)] = .ok [(k, v)] := by simp [lookUpKeys, putKeyOf_keyText]
  simp [readPut, hpairs, hkeys]

/-- A content of a verb and one argument is cut at its space (R179). -/
theorem splitAtEvery_put {arg : Text} (h : 32 ∉ arg) : splitAtEvery 32 (word "PUT " ++ arg) = [word "PUT", arg] := by
  have hcut := splitAtEvery_append (c := 32) (t := word "PUT") (by decide) arg
  rwa [splitAtEvery_of_notMem h] at hcut

theorem readVerb_put (args : List Text) : readVerb (word "PUT") args = readPut args := by
  unfold readVerb
  dsimp only
  rw [if_neg (by decide), if_neg (by decide), if_pos rfl]

/-- A PUT of one pair as it is written is judged to be the request for that pair. -/
theorem judgeContent_put {k : CfgKey} {v : Value} (h : accepts k v = true) :
    judgeContent (word "PUT " ++ (keyText k ++ 61 :: valueText v)) = .request (.put [(k, v)]) := by
  have hall : (keyText k ++ 61 :: valueText v).all (fun c => isKeyChar c || c == 61) = true := by
    have plain {t : Text} (ht : t.all isKeyChar = true) : t.all (fun c => isKeyChar c || c == 61) = true := by
      rw [List.all_eq_true] at ht ⊢
      exact fun c hc => by rw [ht c hc, Bool.true_or]
    rw [List.all_append, List.all_cons, plain (keyText_keyChars k), plain (valueText_keyChars v)]
    rfl
  have hfull : [keyText k ++ 61 :: valueText v].any List.isEmpty = false := by simp
  unfold judgeContent
  rw [splitAtEvery_put (notMem_of_all hall rfl)]
  dsimp only
  rw [hfull, Bool.and_false, if_neg Bool.false_ne_true, readVerb_put, readPut_written h]
  rfl

/-- Settles O42: the frame is cut where it was put on, and the pair of a PUT at its space and its equals sign. -/
theorem writtenLinesReadBack : Obligations.WrittenLinesReadBack := by
  refine ⟨fun a body check ha hb hc => ?_, fun k v h => ?_⟩
  · have hframe := frameOf_line ha hb hc
    exact ⟨fun he => hframe.trans (if_pos he.symm), fun hn => hframe.trans (if_neg (Ne.symm hn))⟩
  · rw [List.append_assoc]
    exact judgeContent_put h

end Sys2Proof.Machine
end

section
/-! PROOF. A refused PUT (R165): one lemma per test, and the reply as its only effect. -/

namespace Sys2Proof.Machine

open Sys2Proof

/-- The key is ENABLED of a strand that is not IDLE (R165, test 2). -/
abbrev EnablesRunning (s : State) (k : CfgKey) : Prop :=
  ∃ n : Strand, k = .strand .enabled n ∧ (ctxOf s n).state ≠ .idle

section Tests

variable {q : CfgKey × Value} {pairs : List (CfgKey × Value)} {reply : Reply} {s : State}

/-- ENABLED of a running strand is refused before its value is looked at (assumption log 16). -/
theorem pairRefusal_running (h : EnablesRunning s q.1) :
    pairRefusal s q = some (noFor "STATE" [keyText q.1]) := by
  obtain ⟨n, hn, hi⟩ := h
  rw [pairRefusal, hn]
  exact if_pos hi

theorem pairRefusal_range (h : ¬ EnablesRunning s q.1)
    (ha : accepts q.1 q.2 = false) : pairRefusal s q = some (noFor "RANGE" [keyText q.1]) := by
  have ha' : ¬ accepts q.1 q.2 = true := Bool.not_eq_true _ ▸ ha
  unfold pairRefusal
  split
  next n hn => rw [if_neg fun hi => h ⟨n, hn, hi⟩, if_neg ha']
  next => exact if_neg ha'

theorem pairRefusal_passed (h : ¬ EnablesRunning s q.1)
    (ha : accepts q.1 q.2 = true) : pairRefusal s q = none :=
  pairRefusal_eq_none ha fun n hn => by_contra fun hi => h ⟨n, hn, hi⟩

theorem putRefusal_saving (hs : s.store.saving = true) : putRefusal s pairs = some (noFor "BUSY" []) := if_pos hs

/-- The first pair that fails decides, pairs before it having passed (R165, test 2). -/
theorem putRefusal_pair {before after : List (CfgKey × Value)} (hs : s.store.saving = false)
    (hb : before.findSome? (pairRefusal s) = none) (hq : pairRefusal s q = some reply) :
    putRefusal s (before ++ q :: after) = some reply := by
  have hp : (before ++ q :: after).findSome? (pairRefusal s) = some reply := by
    simp [List.findSome?_append, hb, hq]
  rw [putRefusal, hs, if_neg Bool.false_ne_true, hp]

/-- Once every pair has passed by itself, the cross-checks of the resulting set decide (R165, test 3). -/
theorem putRefusal_crossCheck (hs : s.store.saving = false) (hp : pairs.findSome? (pairRefusal s) = none)
    (hx : pairs.find? (fun p => !crossCheck (applyPairs s.cfg pairs) p.1) = some q) :
    putRefusal s pairs = some (noFor "RANGE" [keyText q.1]) := by
  rw [putRefusal, hs, if_neg Bool.false_ne_true, hp]
  dsimp only
  rw [hx]
  rfl

/-- A PUT that fails a test leaves its reply and nothing else (R165). -/
theorem exec_put_refused (hne : pairs ≠ []) (ht : taken (.put pairs) s) (hp : putRefusal s pairs = some reply) :
    exec (.put pairs) s = .next (answered (.put pairs) reply s) := by
  have hr : interfaceRefusal (.put pairs) = none := by
    cases pairs with
    | nil => exact absurd rfl hne
    | cons => rfl
  have hp' : putRefusal { s with line := lineTaking (.put pairs) s.line } pairs = some reply := hp
  have hserved : exec (.put pairs) s = _ := request_served ht hr
  rw [hserved, putAt, hp']
  exact congrArg _ (answer_taking reply s (.put pairs))

end Tests

/-- Settles O47: the tests in their order, each reached when those before it have passed. -/
theorem putIsRefusedWhole : Obligations.PutIsRefusedWhole := by
  intro a b s ht no running c
  have refused {reply : Reply} (h : putRefusal s [a, b] = some reply) :
      exec (.put [a, b]) s = .next (answered (.put [a, b]) reply s) := exec_put_refused nofun ht h
  refine ⟨fun hs => refused (putRefusal_saving hs), fun hs => ?_⟩
  refine ⟨fun hra => ?stateA, fun hra haa => ?rangeA, fun hra haa => ?passedA⟩
  case stateA => exact refused (putRefusal_pair (before := []) hs rfl (pairRefusal_running hra))
  case rangeA => exact refused (putRefusal_pair (before := []) hs rfl (pairRefusal_range hra haa))
  case passedA =>
    have hfirst : [a].findSome? (pairRefusal s) = none := by simp [pairRefusal_passed hra haa]
    refine ⟨fun hrb => ?stateB, fun hrb hab => ?rangeB, fun hrb hab => ?passedB⟩
    case stateB => exact refused (putRefusal_pair hs hfirst (pairRefusal_running hrb))
    case rangeB => exact refused (putRefusal_pair hs hfirst (pairRefusal_range hrb hab))
    case passedB =>
      have hboth : [a, b].findSome? (pairRefusal s) = none := by
        simp [pairRefusal_passed hra haa, pairRefusal_passed hrb hab]
      have hset : applyPairs s.cfg [a, b] = c := rfl
      exact ⟨fun hxa => refused (putRefusal_crossCheck hs hboth (by simp [hset, hxa])),
        fun hxa hxb => refused (putRefusal_crossCheck hs hboth (by simp [hset, hxa, hxb]))⟩

end Sys2Proof.Machine
end

section
/-! PROOF. Control power and the snapshot's completion (R169, R170). -/

namespace Sys2Proof.Machine

open Sys2Proof

section Power

variable {s : State}

theorem exec_snapshotCompletion (hp : s.phase = .shutdown) (hw : s.store.snapshot.writing = true) :
    exec .snapshotCompletion s = .next { s with
      store := { s.store with snapshot := { s.store.snapshot with valid := true, writing := false } } } :=
  congrArg Host.Outcome.next (if_pos ⟨hp, hw⟩)

/-- A completion of nothing has no effect (assumption log 21). -/
theorem exec_snapshotCompletion_none (h : s.phase ≠ .shutdown ∨ s.store.snapshot.writing = false) :
    exec .snapshotCompletion s = .next s :=
  congrArg Host.Outcome.next (if_neg fun ⟨hp, hw⟩ => h.elim (absurd hp) fun hn => Bool.false_ne_true (hn.symm.trans hw))

theorem exec_controlSupplyFailingDeassert (hp : s.phase ≠ .unpowered) :
    exec .controlSupplyFailingDeassert s = .next { s with failing := false } :=
  congrArg Host.Outcome.next (if_neg hp)

/-- An application of power is a loss of power and forced outputs, then the wait for the start (R170). -/
theorem applyPower_rest (failing : Bool) (s : State) : applyPower failing s = { losePower s with
    strands := (applyPower failing s).strands, alarm := true, phase := .holding, failing := failing } := by
  have hu := forceOutputs_rest (losePower s)
  unfold applyPower
  generalize forceOutputs (losePower s) = u at hu ⊢
  rw [hu]

end Power

/-- Settles O58. -/
theorem controlPowerComesAndGoes : Obligations.ControlPowerComesAndGoes := by
  intro failing s
  exact ⟨exec_snapshotCompletion, exec_snapshotCompletion_none, exec_controlSupplyFailingDeassert, rfl,
    applyPower failing s, rfl, applyPower_rest failing s, fun n => forceOutputs_block (losePower s) n⟩

end Sys2Proof.Machine
end

section
/-! PROOF. The characters of the service line (R175): what each receive state does with one, and the line that its CR
completes (R176, R178, R179). -/

namespace Sys2Proof.Machine

open Sys2Proof

/-! ## A character as the interface sees it -/

/-- A framing error, or a parity error under EVEN (R175; assumption log 14). -/
abbrev BadChar (parity : Parity) (pe fe : Bool) : Prop := fe = true ∨ (pe = true ∧ parity = .even)

section Received

variable {code : Nat} {pe fe : Bool} {parity : Parity} {s : State}

theorem receivedChar_bad (h : BadChar parity pe fe) : receivedChar parity code pe fe = none :=
  if_pos (by simpa using h)

theorem receivedChar_sound (h : ¬ BadChar parity pe fe) : receivedChar parity code pe fe = some code :=
  if_neg (by simpa using h)

theorem receivedChar_eq_some {x : Nat} :
    receivedChar parity code pe fe = some x ↔ ¬ BadChar parity pe fe ∧ code = x := by
  by_cases h : BadChar parity pe fe
  · simp [receivedChar_bad h, h]
  · simp [receivedChar_sound h, h]

theorem exec_characterReceived (hp : s.phase = .running) :
    exec (.characterReceived code pe fe) s = .next (receive (receivedChar s.line.parity code pe fe) s) :=
  congrArg Host.Outcome.next (if_pos hp)

theorem exec_badChar (hp : s.phase = .running) (h : BadChar s.line.parity pe fe) :
    exec (.characterReceived code pe fe) s = .next (receive none s) := by
  rw [exec_characterReceived hp, receivedChar_bad h]

theorem exec_soundChar (hp : s.phase = .running) (h : ¬ BadChar s.line.parity pe fe) :
    exec (.characterReceived code pe fe) s = .next (receive (some code) s) := by
  rw [exec_characterReceived hp, receivedChar_sound h]

theorem exec_requestLine (hp : s.phase = .running) (chars : Text) :
    exec (.requestLine chars) s = .next (chars.foldl (fun u c => receive (some c) u) s) :=
  congrArg Host.Outcome.next (if_pos hp)

end Received

/-! ## The receive states -/

section Receive

variable {c : Option Nat} {x : Nat} {l : Line} {s : State}

theorem receive_betweenLines (h : s.line.recv = .betweenLines) :
    receive c s = { s with line := charBetween c s.line } := by
  rw [receive, h]

theorem receive_inLine (h : s.line.recv = .inLine) (hc : c ≠ some 13) :
    receive c s = { s with line := charInLine c s.line } := by
  rw [receive, h]
  exact if_neg hc

theorem receive_cr (h : s.line.recv = .inLine) :
    receive (some 13) s = judgeLine (s.line.buffer ++ [13]) s := by
  rw [receive, h]
  rfl

theorem receive_answering (h : s.line.recv = .answering) :
    receive c s = { s with line := charAnswering c s.line } := by
  rw [receive, h]

theorem charBetween_begins : charBetween (some 62) l = { l with recv := .inLine, buffer := [62] } := rfl

theorem charBetween_discards (h : c ≠ some 62) : charBetween c l = l := if_neg h

theorem charInLine_begins : charInLine (some 62) l = { countFaulty l with buffer := [62] } := rfl

theorem charInLine_stores (hx : x ≠ 62) (hlow : 32 ≤ x) (hhigh : x ≤ 126) (hl : l.buffer.length < 95) :
    charInLine (some x) l = { l with buffer := l.buffer ++ [x] } := by
  have hfits : (within (32, 126) x && l.buffer.length < 95) = true := by simp [within, hlow, hhigh, hl]
  rw [charInLine, if_neg hx, if_pos hfits]

/-- A character of a line that has room for it: as its code is at least 32, it is no CR. -/
theorem receive_stores (h : s.line.recv = .inLine) (hx : x ≠ 62) (hlow : 32 ≤ x) (hhigh : x ≤ 126)
    (hl : s.line.buffer.length < 95) :
    receive (some x) s = { s with line := { s.line with buffer := s.line.buffer ++ [x] } } := by
  have hcr : some x ≠ some 13 := fun h => by injection h; omega
  rw [receive_inLine h hcr, charInLine_stores hx hlow hhigh hl]

theorem charInLine_discards (hx : x ≠ 62) (h : x < 32 ∨ 126 < x ∨ 95 ≤ l.buffer.length) :
    charInLine (some x) l = { countFaulty l with recv := .betweenLines } := by
  have hout : ¬ (within (32, 126) x && l.buffer.length < 95) = true := by
    simp only [within, Bool.and_eq_true, decide_eq_true_eq]
    omega
  rw [charInLine, if_neg hx, if_neg hout]

theorem charAnswering_lineFeed (h : l.firstChar = true) : charAnswering (some 10) l = { l with firstChar := false } :=
  if_pos (by simp [h])

/-- Whatever is no LF directly after the CR is one more character of the faulty span. -/
theorem charAnswering_eq_none (h : c ≠ some 10 ∨ l.firstChar = false) : charAnswering c l = charAnswering none l := by
  have hlf : ¬ (l.firstChar && c = some 10) = true := by
    simp only [Bool.and_eq_true, decide_eq_true_eq]
    rintro ⟨hf, hc⟩
    exact h.elim (absurd hc) fun hn => Bool.false_ne_true (hn.symm.trans hf)
  simp [charAnswering, hlf]

end Receive

/-- Settles O40: in each receive state a bad character is `none` and a sound one its code. -/
theorem charactersAreReceived : Obligations.CharactersAreReceived := by
  intro code pe fe s hp bad next counted
  refine ⟨fun hr => ?begins, fun hr hbad => ?badInLine, fun hr hsound hc => ?again,
    fun hr hsound hc hlow hhigh hl => ?stored, fun hr hsound hc hcr hout => ?faulty,
    fun hr hsound hc hf => ?lineFeed, fun hr h => ?span⟩
  case begins =>
    by_cases h : ¬ bad ∧ code = 62
    · rw [if_pos h, exec_soundChar hp h.1, h.2, receive_betweenLines hr, charBetween_begins]
    · have hc : receivedChar s.line.parity code pe fe ≠ some 62 := mt receivedChar_eq_some.1 h
      rw [if_neg h, exec_characterReceived hp, receive_betweenLines hr, charBetween_discards hc]
  case badInLine =>
    rw [exec_badChar hp hbad, receive_inLine hr (by decide)]
    rfl
  case again =>
    rw [exec_soundChar hp hsound, hc, receive_inLine hr (by decide), charInLine_begins]
    rfl
  case stored =>
    rw [exec_soundChar hp hsound, receive_stores hr hc hlow hhigh hl]
  case faulty =>
    rw [exec_soundChar hp hsound, receive_inLine hr (by simpa using hcr), charInLine_discards hc hout]
    rfl
  case lineFeed =>
    rw [exec_soundChar hp hsound, hc, receive_answering hr, charAnswering_lineFeed hf]
  case span =>
    by_cases hbad : bad
    · rw [exec_badChar hp hbad, receive_answering hr, charAnswering_none]
    · have hspan : some code ≠ some 10 ∨ s.line.firstChar = false :=
        (h.resolve_left hbad).imp_left fun hc => by simpa using hc
      rw [exec_soundChar hp hbad, receive_answering hr, charAnswering_eq_none hspan, charAnswering_none]

/-! ## A line judged -/

section Judged

variable {whole : Text} {f : Framed} {s : State}

theorem judgeLine_broken (h : frameOf whole = none) : judgeLine whole s = { s with line := { s.line with
    recv := .betweenLines, buffer := whole, errors := min (s.line.errors + 1) 255 } } := by
  rw [judgeLine, h]
  rfl

theorem judgeLine_request {r : Request} (h : frameOf whole = some f) (ha : f.addr = s.line.addr)
    (hr : judgeContent f.body = .request r) : judgeLine whole s = { s with line := { s.line with
      recv := .answering, buffer := whole, firstChar := true, spanCounted := false
      handed := s.line.handed ++ [r] } } := by
  rw [judgeLine, h]
  dsimp only
  rw [if_pos ha, hr]
  rfl

theorem judgeLine_refused {reply : Reply} (h : frameOf whole = some f) (ha : f.addr = s.line.addr)
    (hr : judgeContent f.body = .refused reply) : judgeLine whole s = { s with line := { s.line with
      recv := .answering, buffer := whole, firstChar := true, spanCounted := false
      reply := some (replyLine s.line.addr reply) } } := by
  rw [judgeLine, h]
  dsimp only
  rw [if_pos ha, hr]
  rfl

/-- A line that is not to the part's address is a broadcast of HLD ALL or STP ALL, or discarded (R176, R178). -/
theorem judgeLine_elsewhere (h : frameOf whole = some f) (ha : f.addr ≠ s.line.addr) :
    judgeLine whole s = { s with line := { s.line with
      recv := .betweenLines, buffer := whole
      handed :=
        if f.addr = 0 ∧ f.body = word "HLD ALL" then s.line.handed ++ [.hldAll true]
        else if f.addr = 0 ∧ f.body = word "STP ALL" then s.line.handed ++ [.stpAll true]
        else s.line.handed } } := by
  rw [judgeLine, h]
  dsimp only
  rw [if_neg ha]
  split
  · rfl
  · split <;> rfl

theorem judgeLine_foreign (h : frameOf whole = some f) (ha : f.addr ≠ s.line.addr)
    (hb : f.addr ≠ 0 ∨ (f.body ≠ word "HLD ALL" ∧ f.body ≠ word "STP ALL")) :
    judgeLine whole s = { s with line := { s.line with recv := .betweenLines, buffer := whole } } := by
  have hhld : ¬ (f.addr = 0 ∧ f.body = word "HLD ALL") := fun ⟨h0, hw⟩ => hb.elim (absurd h0) fun hn => hn.1 hw
  have hstp : ¬ (f.addr = 0 ∧ f.body = word "STP ALL") := fun ⟨h0, hw⟩ => hb.elim (absurd h0) fun hn => hn.2 hw
  rw [judgeLine_elsewhere h ha, if_neg hhld, if_neg hstp]

theorem judgeLine_hldAll (h : frameOf whole = some f) (ha : f.addr ≠ s.line.addr) (h0 : f.addr = 0)
    (hb : f.body = word "HLD ALL") : judgeLine whole s = { s with line := { s.line with
      recv := .betweenLines, buffer := whole, handed := s.line.handed ++ [.hldAll true] } } := by
  rw [judgeLine_elsewhere h ha, if_pos ⟨h0, hb⟩]

theorem judgeLine_stpAll (h : frameOf whole = some f) (ha : f.addr ≠ s.line.addr) (h0 : f.addr = 0)
    (hb : f.body = word "STP ALL") : judgeLine whole s = { s with line := { s.line with
      recv := .betweenLines, buffer := whole, handed := s.line.handed ++ [.stpAll true] } } := by
  have hhld : ¬ (f.addr = 0 ∧ f.body = word "HLD ALL") := fun ⟨_, hw⟩ => absurd (hb.symm.trans hw) (by decide)
  rw [judgeLine_elsewhere h ha, if_neg hhld, if_pos ⟨h0, hb⟩]

/-- The judgement takes the line it is given: the receive state and the characters before it are overwritten. -/
theorem judgeLine_overwrites (recv : RecvState) (buffer : Text) :
    judgeLine whole { s with line := { s.line with recv := recv, buffer := buffer } } = judgeLine whole s := rfl

end Judged

/-! ## The characters of a line -/

section Whole

variable {s : State}

/-- Characters of a line that fit in it are stored in their order (R175). -/
theorem foldl_receive_stores {chars : Text} (h : s.line.recv = .inLine)
    (hchars : ∀ c ∈ chars, 32 ≤ c ∧ c ≤ 126 ∧ c ≠ 62) (hl : s.line.buffer.length + chars.length ≤ 95) :
    chars.foldl (fun u c => receive (some c) u) s
      = { s with line := { s.line with buffer := s.line.buffer ++ chars } } := by
  induction chars generalizing s with
  | nil => rw [List.append_nil]; rfl
  | cons x xs ih =>
    obtain ⟨hx, hxs⟩ := List.forall_mem_cons.1 hchars
    obtain ⟨hlow, hhigh, hne⟩ := hx
    rw [List.length_cons] at hl
    let stored : State := { s with line := { s.line with buffer := s.line.buffer ++ [x] } }
    have hstored : receive (some x) s = stored := receive_stores h hne hlow hhigh (by omega)
    have hroom : stored.line.buffer.length + xs.length ≤ 95 := by
      rw [List.length_append, List.length_singleton]
      omega
    rw [List.foldl_cons, hstored, ih (s := stored) h hxs hroom, List.append_assoc]
    rfl

/-- A whole line of at most 96 characters is judged as it stands (R175, R176; assumption log 5). -/
theorem foldl_receive_line {body : Text} (h : s.line.recv = .betweenLines) (hl : body.length ≤ 94)
    (hbody : ∀ c ∈ body, 32 ≤ c ∧ c ≤ 126 ∧ c ≠ 62) :
    (62 :: body ++ [13]).foldl (fun u c => receive (some c) u) s = judgeLine (62 :: body ++ [13]) s := by
  let opened : State := { s with line := { s.line with recv := .inLine, buffer := [62] } }
  have hopen : receive (some 62) s = opened := receive_betweenLines h
  have hroom : opened.line.buffer.length + body.length ≤ 95 := (Nat.add_comm 1 _).trans_le (Nat.succ_le_succ hl)
  rw [List.cons_append, List.foldl_cons, hopen, List.foldl_append, foldl_receive_stores rfl hbody hroom,
    List.foldl_cons, List.foldl_nil, receive_cr rfl]
  exact judgeLine_overwrites .inLine (62 :: body)

end Whole

/-- Settles O41: either command judges the whole line, and the judgement has one equation for each outcome. -/
theorem requestLinesAreJudged : Obligations.RequestLinesAreJudged := by
  intro s hp judged
  have settled {c : Instr} {whole : Text} (h : exec c s = .next (judgeLine whole s)) : judged c whole :=
    ⟨fun hf => h.trans (congrArg _ (judgeLine_broken hf)), fun _ hf =>
      ⟨fun ha _ hr => h.trans (congrArg _ (judgeLine_request hf ha hr)),
        fun ha _ hr => h.trans (congrArg _ (judgeLine_refused hf ha hr)),
        fun ha hb => h.trans (congrArg _ (judgeLine_foreign hf ha hb)),
        fun ha h0 hb => h.trans (congrArg _ (judgeLine_hldAll hf ha h0 hb)),
        fun ha h0 hb => h.trans (congrArg _ (judgeLine_stpAll hf ha h0 hb))⟩⟩
  refine ⟨fun hr body hl hbody => settled ?whole, fun hr parityError hpe => settled ?lastChar⟩
  case whole => rw [exec_requestLine hp, foldl_receive_line hr hl hbody]
  case lastChar =>
    have hsound : ¬ BadChar s.line.parity parityError false := by
      rintro (hfe | ⟨hpar, heven⟩)
      · exact Bool.false_ne_true hfe
      · exact hpe.elim (fun hn => Bool.false_ne_true (hn.symm.trans hpar)) (absurd heven)
    rw [exec_soundChar hp hsound, receive_cr hr]

end Sys2Proof.Machine
end
